-- ==== Sys2Proof/Word.lean ====
section
/-! DEFINITION. The values the core handles: nibbles, channel bytes, pixels, pixel words, command
words and mode tags (00_scope.md R5, R7, R8). Every quantity is unsigned. -/

namespace Sys2Proof

/-- A BitNibble, one 4-bit half of a channel (00_scope.md R5, NIBW = 4). -/
abbrev Nibble := BitVec 4

/-- A channel value, 8 bits, unsigned (00_scope.md R5, CHW = 8). -/
abbrev Byte := BitVec 8

/-- A pixel packed for the grid port, 24 bits (00_scope.md R5 PIXW, 30_encoding.md R60). -/
abbrev PixelWord := BitVec 24

/-- A command word, 2 bits: bit 0 START, bit 1 OP (30_encoding.md R57). -/
abbrev CommandWord := BitVec 2

/-- The 2-bit memory select of the grid port (30_encoding.md R68). -/
abbrev MemorySelect := BitVec 2

/-- The opaque colour-mode tag, MODEW = 8 bits (00_scope.md R6, 30_encoding.md R62). -/
abbrev ModeTag := BitVec 8

/-- A pixel: three lanes R, G, B of 8 bits in that order, no alpha (20_memory.md R38). -/
structure Pixel where
  r : Byte
  g : Byte
  b : Byte
  deriving DecidableEq, Repr, Inhabited

/-- BLACK, the substitute payload pixel and the value of the black test (00_scope.md R5). -/
def Pixel.black : Pixel := ⟨0, 0, 0⟩

end Sys2Proof
end

