-- ==== Sys2Proof/Syntax.lean ====
section
/-! DEFINITION. The operations of the core, one constructor per row of spec/opcode_table.json, and
what the outside world can do to it: the four host transactions, a reset, and the core's turn. -/

namespace Sys2Proof

/-- The three grid memories (10_state.md R26). -/
inductive GridId where
  /-- carrier (MERGE) or stego image (UNMERGE) -/
  | ga
  /-- payload (MERGE) -/
  | gb
  /-- the returned grid -/
  | go
  deriving DecidableEq, Repr, Inhabited

/-- The host-visible registers of the register index map (10_state.md R24). -/
inductive Reg where
  | ctrl | status | err | aW | aH | aMode | bW | bH | oW | oH | oMode
  deriving DecidableEq, Repr

/-- The operations of the core (30_encoding.md R64), in the order of spec/opcode_table.json.
The arguments are the operands the table names that are not registers or memories. -/
inductive Instr where
  /-- MERGE, command word 01 (43_merge.md R98) -/
  | merge
  /-- UNMERGE, command word 11 (44_unmerge.md R105) -/
  | unmerge
  /-- NOP0, command word 00 (30_encoding.md R65) -/
  | nop0
  /-- NOP2, command word 10 (30_encoding.md R65) -/
  | nop2
  /-- SIZECHK (43_merge.md R97) -/
  | sizechk
  /-- SCAN_ADV (42_sequencer.md R91) -/
  | scanAdv
  /-- BOUND_UPD (44_unmerge.md R107) -/
  | boundUpd
  /-- CROP (44_unmerge.md R108) -/
  | crop
  /-- PSEL at the scan position (41_pixel_ops.md R80) -/
  | psel
  /-- MERGE_PX of a carrier and a payload pixel (41_pixel_ops.md R81) -/
  | mergePx (c p : Pixel)
  /-- UNMERGE_PX of a stego pixel (41_pixel_ops.md R82) -/
  | unmergePx (q : Pixel)
  /-- NONBLACK of a reconstructed pixel (41_pixel_ops.md R83) -/
  | nonblack (q : Pixel)
  /-- HI4 (40_channel_datapath.md R72) -/
  | hi4 (v : Byte)
  /-- LO4 (40_channel_datapath.md R73) -/
  | lo4 (v : Byte)
  /-- PACK of a high and a low nibble (40_channel_datapath.md R74) -/
  | pack (hn ln : Nibble)
  /-- EXPAND (40_channel_datapath.md R75) -/
  | expand (n : Nibble)
  /-- MERGE_CH of a carrier and a payload channel (40_channel_datapath.md R76) -/
  | mergeCh (c p : Byte)
  /-- UNMERGE_CH of a stego channel (40_channel_datapath.md R77) -/
  | unmergeCh (v : Byte)
  deriving DecidableEq, Repr

/-- The level of an operation (30_encoding.md R64). -/
inductive Level where
  | command | sequencer | pixel | channel
  deriving DecidableEq, Repr

/-- The level column of the table of 30_encoding.md R64. -/
def Instr.level : Instr → Level
  | .merge => .command
  | .unmerge => .command
  | .nop0 => .command
  | .nop2 => .command
  | .sizechk => .sequencer
  | .scanAdv => .sequencer
  | .boundUpd => .sequencer
  | .crop => .sequencer
  | .psel => .pixel
  | .mergePx _ _ => .pixel
  | .unmergePx _ => .pixel
  | .nonblack _ => .pixel
  | .hi4 _ => .channel
  | .lo4 _ => .channel
  | .pack _ _ => .channel
  | .expand _ => .channel
  | .mergeCh _ _ => .channel
  | .unmergeCh _ => .channel

/-- A host transaction as its tuple of field values (30_encoding.md R68). An index, a value and a
coordinate are naturals, so that what the port cannot carry or the spec gives no meaning can be
written down and refused by name. -/
inductive Transaction where
  /-- `WR idx, val` -/
  | wr (idx val : Nat)
  /-- `RD idx` -/
  | rd (idx : Nat)
  /-- `GWR m, x, y, pix` -/
  | gwr (m : MemorySelect) (x y : Nat) (pix : PixelWord)
  /-- `GRD m, x, y` -/
  | grd (m : MemorySelect) (x y : Nat)
  deriving DecidableEq, Repr

/-- One thing that happens at the core: a host transaction (30_encoding.md R68), a reset
(70_reset_and_hazards.md R130), or the core's own turn (42_sequencer.md R92). -/
inductive HostEvent where
  | bus (t : Transaction)
  | reset
  | coreTurn
  deriving DecidableEq, Repr

end Sys2Proof
end

