-- ==== Sys2Proof/Config.lean ====
section
/-! DEFINITION. What an implementation fixes (00_scope.md R6) and the draws, the values the spec
does not fix (00_scope.md R10). -/

namespace Sys2Proof

/-- The OPEN parameters of 00_scope.md R6. They are arguments of the model: a state carries them
and no step changes them (log 1). -/
structure Params where
  /-- DIMW, the width in bits of every dimension and coordinate register -/
  dimW : Nat
  /-- MAXW, the largest legal grid width -/
  maxW : Nat
  /-- MAXH, the largest legal grid height -/
  maxH : Nat
  deriving DecidableEq, Repr

/-- The ranges of 00_scope.md R6: DIMW ≥ 1, 1 ≤ MAXW, MAXH ≤ 2^DIMW − 1. -/
def Params.legal (p : Params) : Bool :=
  decide (1 ≤ p.dimW) && decide (1 ≤ p.maxW) && decide (p.maxW ≤ 2 ^ p.dimW - 1)
    && decide (1 ≤ p.maxH) && decide (p.maxH ≤ 2 ^ p.dimW - 1)

/-- The values 00_scope.md R6 suggests: DIMW = 16, MAXW = MAXH = 2^16 − 1 (DESIGN CHOICE, log 1). -/
def Params.suggested : Params := ⟨16, 65535, 65535⟩

/-- MODEW, the width of the mode tag (00_scope.md R6). -/
def Config.modeW : Nat := 8

/-- BOUND_INIT, each component of the initial and minimum crop size (00_scope.md R5). -/
def Config.boundInit : Nat := 1

/-- The reset draw of a grid cell (10_state.md R32, 20_memory.md R36): a free value, fixed for the
cell from one reset of its memory (numbered by the first argument) to the next (log 7). -/
opaque Config.unwrittenPixel : Nat → GridId → Nat → Nat → Pixel

/-- The draw a host read of an output register returns in BUSY (70_reset_and_hazards.md R135):
a free value, one for each number of the draw; the reader narrows it to the register (log 6). -/
opaque Config.drawnRegister : Nat → Nat

/-- The draw a host read of GO returns in BUSY or outside the result window
(70_reset_and_hazards.md R135, 44_unmerge.md R109): a free value (log 6). -/
opaque Config.drawnPixel : Nat → Pixel

end Sys2Proof
end

