-- ==== Sys2Proof/Decode.lean ====
section
/-! DEFINITION. Decoding and encoding: the command word (30_encoding.md R57, R58), the register
index map (10_state.md R24), the memory select and the packed pixel word (30_encoding.md R60, R68). -/

namespace Sys2Proof

/-- Why bytes hold no command. -/
inductive DecodeReject where
  /-- no byte at all -/
  | noCommandWord
  /-- a set bit above bit 1: the register port carries exactly 2 bits to CTRL (10_state.md R25 c) -/
  | widerThanCommandWord
  deriving DecidableEq, Repr

/-- The command map: all four words are defined (30_encoding.md R57, R58). Bit 0 is START, bit 1
is OP. -/
def decodeCommand (w : CommandWord) : Instr :=
  match w.getLsbD 0, w.getLsbD 1 with
  | true, false => .merge
  | true, true => .unmerge
  | false, false => .nop0
  | false, true => .nop2

/-- A number written to CTRL as a command: 2 bits or nothing. -/
def decodeValue (v : Nat) : Except DecodeReject Instr :=
  if v < 4 then .ok (decodeCommand (BitVec.ofNat 2 v)) else .error .widerThanCommandWord

/-- The number whose bytes, the least significant first, are `bs`. -/
def bytesToNat : List Byte → Nat
  | [] => 0
  | b :: bs => b.toNat + 256 * bytesToNat bs

/-- The `n` lowest bytes of `v`, the least significant first. -/
def natToBytes : Nat → Nat → List Byte
  | 0, _ => []
  | n + 1, v => BitVec.ofNat 8 v :: natToBytes n (v / 256)

/-- The command that bytes hold: the 2-bit word in the low bits of the first, every other bit 0
(log 12). -/
def decodeBytes (bs : List Byte) : Except DecodeReject Instr :=
  match bs with
  | [] => .error .noCommandWord
  | b :: rest => decodeValue (bytesToNat (b :: rest))

/-- The number that `nbits` bits of the opcode table's word give. -/
def tableValue (nbits w : Nat) : Nat := w % 2 ^ nbits

/-- The instruction read from a word numbered as spec/opcode_table.json numbers it: laid out as
bytes and given to `decodeBytes`. -/
def decodeTableWord (nbits w : Nat) : Option Instr :=
  match decodeBytes (natToBytes ((nbits + 7) / 8) (tableValue nbits w)) with
  | .ok i => some i
  | .error _ => none

/-- The command word of an operation; an internal operation has none (30_encoding.md R58, R64). -/
def encode : Instr → Option CommandWord
  | .merge => some 0b01
  | .unmerge => some 0b11
  | .nop0 => some 0b00
  | .nop2 => some 0b10
  | .sizechk => none
  | .scanAdv => none
  | .boundUpd => none
  | .crop => none
  | .psel => none
  | .mergePx _ _ => none
  | .unmergePx _ => none
  | .nonblack _ => none
  | .hi4 _ => none
  | .lo4 _ => none
  | .pack _ _ => none
  | .expand _ => none
  | .mergeCh _ _ => none
  | .unmergeCh _ => none

/-- The register index map (10_state.md R24); indices 11 and above are not registers (R25 d). -/
def Reg.ofIndex : Nat → Option Reg
  | 0 => some .ctrl
  | 1 => some .status
  | 2 => some .err
  | 3 => some .aW
  | 4 => some .aH
  | 5 => some .aMode
  | 6 => some .bW
  | 7 => some .bH
  | 8 => some .oW
  | 9 => some .oH
  | 10 => some .oMode
  | _ => none

/-- The index of a register (10_state.md R24). -/
def Reg.index : Reg → Nat
  | .ctrl => 0
  | .status => 1
  | .err => 2
  | .aW => 3
  | .aH => 4
  | .aMode => 5
  | .bW => 6
  | .bH => 7
  | .oW => 8
  | .oH => 9
  | .oMode => 10

/-- The width of a register in bits (10_state.md R24). -/
def Reg.width (p : Params) : Reg → Nat
  | .ctrl => 2
  | .status => 2
  | .err => 1
  | .aW => p.dimW
  | .aH => p.dimW
  | .aMode => Config.modeW
  | .bW => p.dimW
  | .bH => p.dimW
  | .oW => p.dimW
  | .oH => p.dimW
  | .oMode => Config.modeW

/-- The memory select: 00 GA, 01 GB, 10 GO, 11 reserved (30_encoding.md R66 c, R68). -/
def GridId.ofSelect (m : MemorySelect) : Option GridId :=
  match m.getLsbD 1, m.getLsbD 0 with
  | false, false => some .ga
  | false, true => some .gb
  | true, false => some .go
  | true, true => none

/-- The memory select of a grid memory (30_encoding.md R68). -/
def GridId.select : GridId → MemorySelect
  | .ga => 0b00
  | .gb => 0b01
  | .go => 0b10

/-- A coordinate pair is an address of the grid memories (20_memory.md R33, R41). -/
def Params.inRange (p : Params) (x y : Nat) : Bool := decide (x < p.maxW) && decide (y < p.maxH)

/-- The pixel a pixel word carries: R = bits 23..16, G = 15..8, B = 7..0 (30_encoding.md R60). -/
def pixelOfWord (w : PixelWord) : Pixel :=
  ⟨w.extractLsb' 16 8, w.extractLsb' 8 8, w.extractLsb' 0 8⟩

/-- The pixel word of a pixel (30_encoding.md R60). -/
def wordOfPixel (p : Pixel) : PixelWord := (p.r ++ p.g) ++ p.b

end Sys2Proof
end

