-- ==== Sys2Proof/Machine/State.lean ====
section
/-! DEFINITION. The state of the core (10_state.md R13, R32) as plain data, the reasons a step can
stop, and the state after reset. -/

namespace Sys2Proof.Machine

/-- STATUS (10_state.md R20). -/
inductive Status where
  /-- 0: no run since reset -/
  | idle
  /-- 1: a run is in progress -/
  | busy
  /-- 2: the last run returned a grid -/
  | done
  /-- 3: the last run failed with SizeError -/
  | error
  deriving DecidableEq, Repr

/-- ERR, the cause code of the last failed run (10_state.md R21). -/
inductive Err where
  /-- 0: no error recorded -/
  | none
  /-- 1: SizeError -/
  | sizeError
  deriving DecidableEq, Repr

/-- OPR, which operation a run performs (10_state.md R18). -/
inductive Op where
  /-- 0 -/
  | merge
  /-- 1 -/
  | unmerge
  deriving DecidableEq, Repr

/-- A written cell of a grid memory. -/
structure PixelCell where
  x : Nat
  y : Nat
  pix : Pixel
  deriving DecidableEq, Repr

/-- A grid memory: the cells written since its last reset, strictly rising in (x, y), and the
number of that reset. A cell that is not listed reads as the draw of the spec (log 7). -/
structure Memory where
  epoch : Nat
  cells : List PixelCell
  deriving DecidableEq, Repr

/-- The result wires of one internal operation (log 3): the model's own, never read by a step. -/
inductive OpResult where
  | none
  | bit (b : Bool)
  | nibble (n : Nibble)
  | byte (v : Byte)
  | pixel (p : Pixel)
  deriving DecidableEq, Repr

/-- What the last RD or GRD returned to the host (30_encoding.md R68, log 5): the model's own. -/
inductive HostReply where
  | none
  | register (v : Nat)
  | pixel (w : PixelWord)
  deriving DecidableEq, Repr

/-- The state of the core: every register and memory of 10_state.md R13, and the model's own fields
`params`, `result`, `pending`, `reply`, `draws`. Dimensions and coordinates are naturals of DIMW
bits; every write of one keeps it in that range (log 2). -/
structure State where
  /-- DIMW, MAXW, MAXH (00_scope.md R6); changed by no step (log 1) -/
  params : Params
  /-- STATUS (R20) -/
  status : Status
  /-- ERR (R21) -/
  err : Err
  /-- A_W (R14) -/
  aW : Nat
  /-- A_H (R14) -/
  aH : Nat
  /-- A_MODE (R14) -/
  aMode : ModeTag
  /-- B_W (R14) -/
  bW : Nat
  /-- B_H (R14) -/
  bH : Nat
  /-- O_W (R16) -/
  oW : Nat
  /-- O_H (R16) -/
  oH : Nat
  /-- O_MODE (R16) -/
  oMode : ModeTag
  /-- X (R17) -/
  x : Nat
  /-- Y (R17) -/
  y : Nat
  /-- BOUND_X (R19) -/
  boundX : Nat
  /-- BOUND_Y (R19) -/
  boundY : Nat
  /-- OPR (R18) -/
  opr : Op
  /-- GA (R26) -/
  ga : Memory
  /-- GB (R26) -/
  gb : Memory
  /-- GO (R26) -/
  go : Memory
  /-- the result wires of an internal operation (log 3) -/
  result : OpResult
  /-- what the host and the platform do next, the first entry first (42_sequencer.md R85, log 4) -/
  pending : List HostEvent
  /-- what the last host read returned (log 5) -/
  reply : HostReply
  /-- the number of draws used so far (log 6) -/
  draws : Nat
  deriving DecidableEq, Repr

/-- What stops the machine with a fault. -/
inductive Fault where
  /-- Raised by a core read or write of a grid memory at x ≥ MAXW or y ≥ MAXH, a cell the spec says
  does not exist and the core never addresses (20_memory.md R41). Safe: the invariant of
  Sys2Proof/Safety.lean rules it out on every run (log 11). -/
  | cellOutsideMemory (m : GridId) (x y : Nat)
  deriving DecidableEq, Repr

/-- What the model refuses: situations the spec gives no meaning (00_scope.md R10, `refuse`). -/
inductive Refusal where
  /-- Raised by an arm of exec whose instruction has no meaning yet; safe. -/
  | notModelled (mnemonic : String)
  /-- Raised by the commands MERGE and UNMERGE outside BUSY when `legal_geometry` is false
  (42_sequencer.md R89); safe: the spec gives such a START no meaning. -/
  | illegalGeometry
  /-- Raised by a host write of A_W, A_H, A_MODE, B_W, B_H or of a grid memory in BUSY
  (70_reset_and_hazards.md R134); safe: the spec gives it no meaning. -/
  | writeWhileBusy
  /-- Raised by WR and RD of an index of 11 or above (10_state.md R25 d); safe. -/
  | noSuchRegister (idx : Nat)
  /-- Raised by WR of a value the register port cannot carry (10_state.md R25 c); safe (log 10). -/
  | valueTooWide (idx val : Nat)
  /-- Raised by GWR and GRD with the reserved memory select 11 (30_encoding.md R66 c); safe. -/
  | reservedSelect
  /-- Raised by GWR and GRD with x ≥ MAXW or y ≥ MAXH (20_memory.md R41); safe. -/
  | coordinateOutOfRange (x y : Nat)
  deriving DecidableEq, Repr

/-- The outcome of a step of this machine. -/
abbrev Outcome := Host.Outcome State Fault Refusal

/-- The state after a reset that finds the parameters `p`, numbered `n` among the resets: every
register at the value of 10_state.md R32, every cell of the three memories a draw. -/
def State.afterReset (p : Params) (n : Nat) : State where
  params := p
  status := .idle
  err := .none
  aW := 0
  aH := 0
  aMode := 0
  bW := 0
  bH := 0
  oW := 0
  oH := 0
  oMode := 0
  x := 0
  y := 0
  boundX := 1
  boundY := 1
  opr := .merge
  ga := ⟨n, []⟩
  gb := ⟨n, []⟩
  go := ⟨n, []⟩
  result := .none
  pending := []
  reply := .none
  draws := n

/-- The machine right after reset (10_state.md R32), with the suggested parameters of
00_scope.md R6 (DESIGN CHOICE, log 1; the model's own fields, log 18). -/
def State.reset : State := State.afterReset Params.suggested 0

end Sys2Proof.Machine
end

