-- ==== Sys2Proof/Machine/Ops.lean ====
section
/-! DEFINITION. The named operations over the grid memories and the registers, taking the one
exception SizeError, and reset. -/

namespace Sys2Proof.Machine

/-! ### Sequencing -/

/-- Do `k` after an outcome that is a next state. -/
def andThen (o : Outcome) (k : State → Outcome) : Outcome :=
  match o with
  | .next s => k s
  | .fault f => .fault f
  | .refused r => .refused r

/-! ### Grid memories -/

/-- (x₁, y₁) comes before (x₂, y₂) in the order memories are listed in. -/
def before (x₁ y₁ x₂ y₂ : Nat) : Bool :=
  decide (x₁ < x₂) || (decide (x₁ = x₂) && decide (y₁ < y₂))

/-- The pixel last stored at (x, y), if one was. -/
def lookupCell : List PixelCell → Nat → Nat → Option Pixel
  | [], _, _ => none
  | c :: cs, x, y => if c.x = x ∧ c.y = y then some c.pix else lookupCell cs x y

/-- Replace the whole pixel at (x, y), keeping the list strictly rising. -/
def storeCell : List PixelCell → Nat → Nat → Pixel → List PixelCell
  | [], x, y, p => [⟨x, y, p⟩]
  | c :: cs, x, y, p =>
    if c.x = x ∧ c.y = y then ⟨x, y, p⟩ :: cs
    else if before x y c.x c.y then ⟨x, y, p⟩ :: c :: cs
    else c :: storeCell cs x y p

/-- The list is strictly rising in (x, y). -/
def cellsRising : List PixelCell → Bool
  | [] => true
  | [_] => true
  | c :: d :: cs => before c.x c.y d.x d.y && cellsRising (d :: cs)

/-- The canonical form of a memory: its cells strictly rising, so no coordinate twice (log 7). -/
def Memory.wf (m : Memory) : Bool := cellsRising m.cells

/-- Every listed cell is an address of the grid memories (10_state.md R26). -/
def Memory.within (p : Params) (m : Memory) : Bool := m.cells.all fun c => p.inRange c.x c.y

/-- What a cell nothing has written since its reset reads as: the draw of the cell
(10_state.md R32, 70_reset_and_hazards.md R133; log 7). -/
def unwrittenCell (id : GridId) (m : Memory) (x y : Nat) : Pixel :=
  Config.unwrittenPixel m.epoch id x y

/-- The pixel at (x, y): the one last stored, or the reset draw (20_memory.md R36). -/
def Memory.read (id : GridId) (m : Memory) (x y : Nat) : Pixel :=
  match lookupCell m.cells x y with
  | some p => p
  | none => unwrittenCell id m x y

/-- The memory with the pixel at (x, y) replaced (20_memory.md R37). -/
def Memory.write (m : Memory) (x y : Nat) (p : Pixel) : Memory :=
  ⟨m.epoch, storeCell m.cells x y p⟩

/-- The grid memory of a name. -/
def State.memory (s : State) : GridId → Memory
  | .ga => s.ga
  | .gb => s.gb
  | .go => s.go

/-- The state with one grid memory replaced. -/
def State.setMemory (s : State) (id : GridId) (m : Memory) : State :=
  match id with
  | .ga => { s with ga := m }
  | .gb => { s with gb := m }
  | .go => { s with go := m }

/-- The pixel a grid memory holds at (x, y) (20_memory.md R36). -/
def State.pixelAt (s : State) (id : GridId) (x y : Nat) : Pixel := (s.memory id).read id x y

/-- The state with the pixel of a grid memory at (x, y) replaced (20_memory.md R37). -/
def State.setPixel (s : State) (id : GridId) (x y : Nat) (p : Pixel) : State :=
  s.setMemory id ((s.memory id).write x y p)

/-- MemRead by the core, handing the pixel on (20_memory.md R36); a cell that does not exist faults
(R41, log 11). -/
def memRead (s : State) (id : GridId) (x y : Nat) (k : Pixel → Outcome) : Outcome :=
  if s.params.inRange x y then k (s.pixelAt id x y) else .fault (.cellOutsideMemory id x y)

/-- MemWrite by the core (20_memory.md R37); a cell that does not exist faults (R41, log 11). -/
def memWrite (s : State) (id : GridId) (x y : Nat) (p : Pixel) : Outcome :=
  if s.params.inRange x y then .next (s.setPixel id x y p) else .fault (.cellOutsideMemory id x y)

/-! ### Registers -/

/-- A value narrowed to the DIMW bits of a dimension or coordinate register (10_state.md R17,
00_scope.md R6; log 2). -/
def State.narrow (s : State) (v : Nat) : Nat := v % 2 ^ s.params.dimW

/-- The scan position set to a pair (10_state.md R17). -/
def State.setPosition (s : State) (x y : Nat) : State := { s with x := x, y := y }

/-- The bound set to a pair (10_state.md R19). -/
def State.setBound (s : State) (x y : Nat) : State := { s with boundX := x, boundY := y }

/-- The size of the result grid set (10_state.md R16). -/
def State.setOutputSize (s : State) (w h : Nat) : State := { s with oW := w, oH := h }

/-- STATUS set (10_state.md R20). -/
def State.setStatus (s : State) (v : Status) : State := { s with status := v }

/-- OPR loaded (10_state.md R18, 42_sequencer.md R87). -/
def State.setOpr (s : State) (o : Op) : State := { s with opr := o }

/-- The result wires driven (log 3). -/
def State.setResult (s : State) (r : OpResult) : State := { s with result := r }

/-- A value returned to the host (log 5). -/
def State.setReply (s : State) (r : HostReply) : State := { s with reply := r }

/-- One draw used (log 6). -/
def State.useDraw (s : State) : State := { s with draws := s.draws + 1 }

/-- The output descriptor allocated from the carrier's or stego grid's: same dimensions and mode
(10_state.md R16, 43_merge.md R98, 44_unmerge.md R105). -/
def State.allocateOutput (s : State) : State :=
  { s with oW := s.aW, oH := s.aH, oMode := s.aMode }

/-- The code of STATUS (10_state.md R20). -/
def statusCode : Status → Nat
  | .idle => 0
  | .busy => 1
  | .done => 2
  | .error => 3

/-- The code of ERR (10_state.md R21). -/
def errCode : Err → Nat
  | .none => 0
  | .sizeError => 1

/-- What a register holds as a number; CTRL holds nothing and reads 0 (10_state.md R22, R24). -/
def State.readRegister (s : State) : Reg → Nat
  | .ctrl => 0
  | .status => statusCode s.status
  | .err => errCode s.err
  | .aW => s.aW
  | .aH => s.aH
  | .aMode => s.aMode.toNat
  | .bW => s.bW
  | .bH => s.bH
  | .oW => s.oW
  | .oH => s.oH
  | .oMode => s.oMode.toNat

/-! ### The exception -/

/-- Taking SizeError: STATUS becomes ERROR and ERR 1, nothing else changes; no state is saved, no
control transfer (60_exceptions.md R118). Leaving it is the next accepted START (R120). -/
def raiseSizeError (s : State) : State := { s with status := .error, err := .sizeError }

/-! ### Reset -/

/-- A memory all of whose cells are draws, for the reset numbered `n`. -/
def unspecifiedMemory (n : Nat) : Memory := ⟨n, []⟩

/-- Reset: every register at its reset value; in BUSY the contents of GA and GB survive and GO is
unspecified (70_reset_and_hazards.md R131), otherwise all three memories are unspecified
(10_state.md R32, R130; log 8). The parameters, the events to come and the numbering of draws are
not the core's and go on. -/
def resetState (s : State) : State :=
  { State.afterReset s.params (s.draws + 1) with
    ga := if s.status = .busy then s.ga else unspecifiedMemory (s.draws + 1)
    gb := if s.status = .busy then s.gb else unspecifiedMemory (s.draws + 1)
    pending := s.pending }

end Sys2Proof.Machine
end

