-- ==== Sys2Proof/Machine/Flags.lean ====
section
/-! DEFINITION. The conditions of the core: computed and used in one step, kept nowhere
(10_state.md R15, R23). All compares are unsigned. -/

namespace Sys2Proof.Machine

/-- `legal_geometry(op)` (10_state.md R15). -/
def legalGeometry (op : Op) (s : State) : Bool :=
  decide (1 ≤ s.aW) && decide (s.aW ≤ s.params.maxW)
    && decide (1 ≤ s.aH) && decide (s.aH ≤ s.params.maxH)
    && (decide (op = .unmerge) || (decide (s.bW ≤ s.params.maxW) && decide (s.bH ≤ s.params.maxH)))

/-- `size_ok`: the payload fits on each axis (43_merge.md R97). -/
def sizeOk (s : State) : Bool := decide (s.bW ≤ s.aW) && decide (s.bH ≤ s.aH)

/-- `in_payload` at (x, y) (41_pixel_ops.md R80). -/
def inPayload (s : State) (x y : Nat) : Bool := decide (x < s.bW) && decide (y < s.bH)

/-- `nonblack` of a reconstructed pixel (41_pixel_ops.md R83). -/
def isNonblack (q : Pixel) : Bool := decide (q.r ≠ 0) || decide (q.g ≠ 0) || decide (q.b ≠ 0)

/-- The scan position is in the last row of its column. Written as Y + 1 = A_H, which is
Y = A_H − 1 for every legal A_H and underflows for none (42_sequencer.md R91; log 15). -/
def lastRow (s : State) : Bool := decide (s.y + 1 = s.aH)

/-- `last`: the scan position is the last coordinate (42_sequencer.md R91; log 15). -/
def isLast (s : State) : Bool := decide (s.x + 1 = s.aW) && lastRow s

end Sys2Proof.Machine
end

