-- ==== Sys2Proof/Machine/Sequencer.lean ====
section
/-! DEFINITION. The sequencer's operations: SIZECHK (43_merge.md R97), SCAN_ADV (42_sequencer.md R91),
BOUND_UPD (44_unmerge.md R107) and CROP (44_unmerge.md R108). -/

namespace Sys2Proof.Machine

/-- SIZECHK's part of a start step: SizeError when the payload does not fit, else nothing
(43_merge.md R97; log 17). -/
def checkSize (s : State) : State := if sizeOk s then s else raiseSizeError s

/-- SCAN_ADV: rows run fastest, columns outermost; nothing at the last coordinate (R91). -/
def scanAdvance (s : State) : State :=
  if isLast s then s
  else if lastRow s then s.setPosition (s.narrow (s.x + 1)) 0
  else s.setPosition s.x (s.narrow (s.y + 1))

/-- BOUND_UPD: an overwrite of both components, never a maximum (R107). -/
def boundUpdate (s : State) : State := s.setBound (s.narrow (s.x + 1)) (s.narrow (s.y + 1))

/-- CROP: the window of GO narrowed to the bound; no pixel moves, O_MODE stays (R108). -/
def cropOutput (s : State) : State := s.setOutputSize s.boundX s.boundY

/-- SIZECHK (43_merge.md R97): the bit size_ok, and SizeError when it is false. -/
def execSizechk (s : State) : Outcome := .next ((checkSize s).setResult (.bit (sizeOk s)))

/-- SCAN_ADV (42_sequencer.md R91). -/
def execScanAdv (s : State) : Outcome := .next (scanAdvance s)

/-- BOUND_UPD (44_unmerge.md R107). -/
def execBoundUpd (s : State) : Outcome := .next (boundUpdate s)

/-- CROP (44_unmerge.md R108). -/
def execCrop (s : State) : Outcome := .next (cropOutput s)

end Sys2Proof.Machine
end

