-- ==== Sys2Proof/Machine/Command.lean ====
section
/-! DEFINITION. The four commands: START dispatch (42_sequencer.md R87 to R89), the start steps of
MERGE (43_merge.md R98) and UNMERGE (44_unmerge.md R105), and the no-effect words
(30_encoding.md R65). -/

namespace Sys2Proof.Machine

/-- A run begins: ERR cleared, the output descriptor allocated, the scan at (0, 0), BUSY. -/
def beginRun (s : State) : State :=
  { s.allocateOutput.setPosition 0 0 with err := .none, status := .busy }

/-- MERGE start step: the size check before anything else is written (43_merge.md R98). -/
def mergeStart (s : State) : State := if sizeOk s then beginRun s else raiseSizeError s

/-- UNMERGE start step: no size check, the bound at (1, 1) (44_unmerge.md R105). -/
def unmergeStart (s : State) : State :=
  beginRun (s.setBound Config.boundInit Config.boundInit)

/-- The start step of an operation. -/
def startStep : Op → State → State
  | .merge => mergeStart
  | .unmerge => unmergeStart

/-- A CTRL write with START = 1: ignored in BUSY (R88); outside BUSY refused on illegal geometry
(R89, before the size check, 60_exceptions.md R121), else OPR is loaded and the start step done
(R87). -/
def startCommand (op : Op) (s : State) : Outcome :=
  if s.status = .busy then .next s
  else if legalGeometry op s then .next (startStep op (s.setOpr op))
  else .refused .illegalGeometry

/-- A CTRL write with START = 0: no effect whatever, in every status (30_encoding.md R65). -/
def noEffect (s : State) : Outcome := .next s

/-- MERGE (43_merge.md R98). -/
def execMerge (s : State) : Outcome := startCommand .merge s

/-- UNMERGE (44_unmerge.md R105). -/
def execUnmerge (s : State) : Outcome := startCommand .unmerge s

/-- NOP0 (30_encoding.md R65). -/
def execNop0 (s : State) : Outcome := noEffect s

/-- NOP2 (30_encoding.md R65). -/
def execNop2 (s : State) : Outcome := noEffect s

end Sys2Proof.Machine
end

