-- ==== Sys2Proof/Machine/Channel.lean ====
section
/-! DEFINITION. The channel datapath (40_channel_datapath.md): pure functions of their operands. Each
meaning drives the result wires and changes nothing else (log 3). -/

namespace Sys2Proof.Machine

/-- HI4(v) = v[7:4] (R72). -/
def highNibble (v : Byte) : Nibble := v.extractLsb' 4 4

/-- LO4(v) = v[3:0] (R73). -/
def lowNibble (v : Byte) : Nibble := v.extractLsb' 0 4

/-- PACK(hn, ln) = the high nibble above the low nibble (R74). -/
def packNibbles (hn ln : Nibble) : Byte := hn ++ ln

/-- EXPAND(n) = PACK(n, 0) (R75). -/
def expandNibble (n : Nibble) : Byte := packNibbles n 0

/-- MERGE_CH(c, p) = PACK(HI4(c), HI4(p)) (R76). -/
def mergeChannel (c p : Byte) : Byte := packNibbles (highNibble c) (highNibble p)

/-- UNMERGE_CH(v) = EXPAND(LO4(v)) (R77). -/
def unmergeChannel (v : Byte) : Byte := expandNibble (lowNibble v)

/-- HI4 (40_channel_datapath.md R72). -/
def execHi4 (v : Byte) (s : State) : Outcome := .next (s.setResult (.nibble (highNibble v)))

/-- LO4 (40_channel_datapath.md R73). -/
def execLo4 (v : Byte) (s : State) : Outcome := .next (s.setResult (.nibble (lowNibble v)))

/-- PACK (40_channel_datapath.md R74). -/
def execPack (hn ln : Nibble) (s : State) : Outcome := .next (s.setResult (.byte (packNibbles hn ln)))

/-- EXPAND (40_channel_datapath.md R75). -/
def execExpand (n : Nibble) (s : State) : Outcome := .next (s.setResult (.byte (expandNibble n)))

/-- MERGE_CH (40_channel_datapath.md R76). -/
def execMergeCh (c p : Byte) (s : State) : Outcome := .next (s.setResult (.byte (mergeChannel c p)))

/-- UNMERGE_CH (40_channel_datapath.md R77). -/
def execUnmergeCh (v : Byte) (s : State) : Outcome := .next (s.setResult (.byte (unmergeChannel v)))

end Sys2Proof.Machine
end

