-- ==== Sys2Proof/Machine/Operands.lean ====
section
/-! DEFINITION. The operand forms of the pixel steps: the pixel of GA at the scan position, the
payload pixel with bounds substitution, and the destination cell of GO (41_pixel_ops.md R80,
43_merge.md R99, 44_unmerge.md R106). -/

namespace Sys2Proof.Machine

/-- The carrier or stego pixel at the scan position (43_merge.md R99, 44_unmerge.md R106). -/
def readInputPixel (s : State) (k : Pixel → Outcome) : Outcome := memRead s .ga s.x s.y k

/-- The payload pixel at the scan position, or black outside the payload without any access of GB
(41_pixel_ops.md R80, 20_memory.md R46). -/
def readPayloadPixel (s : State) (k : Pixel → Outcome) : Outcome :=
  if inPayload s s.x s.y then memRead s .gb s.x s.y k else k Pixel.black

/-- The result pixel stored into GO at the scan position (43_merge.md R99, 44_unmerge.md R106). -/
def writeOutputPixel (s : State) (p : Pixel) : Outcome := memWrite s .go s.x s.y p

end Sys2Proof.Machine
end

