-- ==== Sys2Proof/Machine/Pixel.lean ====
section
/-! DEFINITION. The pixel operations (41_pixel_ops.md): the payload selector, the two three-lane
transforms and the black test. Each meaning drives the result wires and changes nothing else. -/

namespace Sys2Proof.Machine

/-- MERGE_PX(c, p), lane by lane (R81). -/
def mergePixels (c p : Pixel) : Pixel :=
  ⟨mergeChannel c.r p.r, mergeChannel c.g p.g, mergeChannel c.b p.b⟩

/-- UNMERGE_PX(q), lane by lane (R82). -/
def unmergePixel (q : Pixel) : Pixel :=
  ⟨unmergeChannel q.r, unmergeChannel q.g, unmergeChannel q.b⟩

/-- PSEL at the scan position (41_pixel_ops.md R80). -/
def execPsel (s : State) : Outcome := readPayloadPixel s fun p => .next (s.setResult (.pixel p))

/-- MERGE_PX (41_pixel_ops.md R81). -/
def execMergePx (c p : Pixel) (s : State) : Outcome := .next (s.setResult (.pixel (mergePixels c p)))

/-- UNMERGE_PX (41_pixel_ops.md R82). -/
def execUnmergePx (q : Pixel) (s : State) : Outcome := .next (s.setResult (.pixel (unmergePixel q)))

/-- NONBLACK (41_pixel_ops.md R83). -/
def execNonblack (q : Pixel) (s : State) : Outcome := .next (s.setResult (.bit (isNonblack q)))

end Sys2Proof.Machine
end

