-- ==== Sys2Proof/Machine/Dispatch.lean ====
section
/-! DEFINITION. One arm per operation of spec/opcode_table.json. -/

namespace Sys2Proof.Machine

def exec (i : Instr) (s : State) : Host.Outcome State Fault Refusal :=
  match i with
  | .merge => Sys2Proof.Machine.execMerge s
  | .unmerge => Sys2Proof.Machine.execUnmerge s
  | .nop0 => Sys2Proof.Machine.execNop0 s
  | .nop2 => Sys2Proof.Machine.execNop2 s
  | .sizechk => Sys2Proof.Machine.execSizechk s
  | .scanAdv => Sys2Proof.Machine.execScanAdv s
  | .boundUpd => Sys2Proof.Machine.execBoundUpd s
  | .crop => Sys2Proof.Machine.execCrop s
  | .psel => Sys2Proof.Machine.execPsel s
  | .mergePx c p => Sys2Proof.Machine.execMergePx c p s
  | .unmergePx q => Sys2Proof.Machine.execUnmergePx q s
  | .nonblack q => Sys2Proof.Machine.execNonblack q s
  | .hi4 v => Sys2Proof.Machine.execHi4 v s
  | .lo4 v => Sys2Proof.Machine.execLo4 v s
  | .pack hn ln => Sys2Proof.Machine.execPack hn ln s
  | .expand n => Sys2Proof.Machine.execExpand n s
  | .mergeCh c p => Sys2Proof.Machine.execMergeCh c p s
  | .unmergeCh v => Sys2Proof.Machine.execUnmergeCh v s

end Sys2Proof.Machine
end

