-- ==== Sys2Proof/Machine/PixelStep.lean ====
section
/-! DEFINITION. The core's own step: the MERGE pixel step (43_merge.md R99), the UNMERGE pixel step
(44_unmerge.md R106), FINISH (42_sequencer.md R93), and the step they make up (R92). -/

namespace Sys2Proof.Machine

/-- The MERGE pixel step at the scan position (43_merge.md R99). -/
def mergePixelStep (s : State) : Outcome :=
  readInputPixel s fun c => readPayloadPixel s fun p => writeOutputPixel s (mergePixels c p)

/-- The bound after a pixel step that reconstructed `q` (44_unmerge.md R106 step 5). -/
def trackBound (q : Pixel) (s : State) : State := if isNonblack q then boundUpdate s else s

/-- The UNMERGE pixel step at the scan position (44_unmerge.md R106). -/
def unmergePixelStep (s : State) : Outcome :=
  readInputPixel s fun c =>
    andThen (writeOutputPixel s (unmergePixel c)) fun t => .next (trackBound (unmergePixel c) t)

/-- The pixel step OPR selects (42_sequencer.md R92). -/
def pixelStep (s : State) : Outcome :=
  match s.opr with
  | .merge => mergePixelStep s
  | .unmerge => unmergePixelStep s

/-- FINISH: CROP after an UNMERGE run, then DONE (42_sequencer.md R93). -/
def finishRun (s : State) : State :=
  match s.opr with
  | .merge => s.setStatus .done
  | .unmerge => (cropOutput s).setStatus .done

/-- The end of a pixel step: FINISH at the last coordinate, else SCAN_ADV; the wires of its internal
operations carry nothing to the next step (42_sequencer.md R92, 10_state.md R28). -/
def endPixelStep (last : Bool) (s : State) : State :=
  (if last then finishRun s else scanAdvance s).setResult .none

/-- The core's step: in BUSY one pixel step, `last` taken from the position it started with; outside
BUSY nothing (42_sequencer.md R86, R92). -/
def coreStep (s : State) : Outcome :=
  if s.status = .busy then andThen (pixelStep s) fun t => .next (endPixelStep (isLast s) t)
  else .next s

end Sys2Proof.Machine
end

