-- ==== Sys2Proof/Machine/Host.lean ====
section
/-! DEFINITION. The host's four transactions (30_encoding.md R68; rights by status 20_memory.md R56),
and the event that happens next: a transaction, a reset, or the core's turn. -/

namespace Sys2Proof.Machine

/-! ### The register port -/

/-- What WR does to a register outside the BUSY rule: inputs are stored, a write to a read-only
register changes nothing (10_state.md R25 a, b). -/
def storeRegister (r : Reg) (v : Nat) (s : State) : State :=
  match r with
  | .ctrl => s
  | .status => s
  | .err => s
  | .aW => { s with aW := v }
  | .aH => { s with aH := v }
  | .aMode => { s with aMode := BitVec.ofNat 8 v }
  | .bW => { s with bW := v }
  | .bH => { s with bH := v }
  | .oW => s
  | .oH => s
  | .oMode => s

/-- The input descriptor registers, frozen in BUSY (10_state.md R14, 70_reset_and_hazards.md R134). -/
def isInputRegister : Reg → Bool
  | .ctrl => false
  | .status => false
  | .err => false
  | .aW => true
  | .aH => true
  | .aMode => true
  | .bW => true
  | .bH => true
  | .oW => false
  | .oH => false
  | .oMode => false

/-- The output descriptor registers, a draw in BUSY (10_state.md R16, 70_reset_and_hazards.md R135). -/
def isOutputRegister : Reg → Bool
  | .ctrl => false
  | .status => false
  | .err => false
  | .aW => false
  | .aH => false
  | .aMode => false
  | .bW => false
  | .bH => false
  | .oW => true
  | .oH => true
  | .oMode => true

/-- WR to a register that exists, of a value that fits it: CTRL is an event, decoded at once
(10_state.md R22, 30_encoding.md R57). -/
def writeRegister (r : Reg) (v : Nat) (s : State) : Outcome :=
  match r with
  | .ctrl => exec (decodeCommand (BitVec.ofNat 2 v)) s
  | r =>
    if isInputRegister r && decide (s.status = .busy) then .refused .writeWhileBusy
    else .next (storeRegister r v s)

/-- RD of a register that exists: no side effect; an output register in BUSY returns a draw of its
width (70_reset_and_hazards.md R135). -/
def readRegister (r : Reg) (s : State) : State :=
  if isOutputRegister r && decide (s.status = .busy) then
    s.useDraw.setReply (.register (Config.drawnRegister s.draws % 2 ^ r.width s.params))
  else s.setReply (.register (s.readRegister r))

/-! ### The grid port -/

/-- GRD of a cell of GO returns a draw: in BUSY (70_reset_and_hazards.md R135) and, in DONE, outside
the result window (44_unmerge.md R109). -/
def outputCellIsDrawn (s : State) (x y : Nat) : Bool :=
  decide (s.status = .busy)
    || (decide (s.status = .done) && !(decide (x < s.oW) && decide (y < s.oH)))

/-- GRD of a cell that exists (20_memory.md R36, R56; log 9). -/
def readCell (id : GridId) (x y : Nat) (s : State) : State :=
  if decide (id = .go) && outputCellIsDrawn s x y then
    s.useDraw.setReply (.pixel (wordOfPixel (Config.drawnPixel s.draws)))
  else s.setReply (.pixel (wordOfPixel (s.pixelAt id x y)))

/-- GWR of a cell that exists (20_memory.md R37, 70_reset_and_hazards.md R134). -/
def writeCell (id : GridId) (x y : Nat) (w : PixelWord) (s : State) : Outcome :=
  if s.status = .busy then .refused .writeWhileBusy
  else .next (s.setPixel id x y (pixelOfWord w))

/-- The grid port's address: a memory select other than 11 and a coordinate in range, or a refusal
(30_encoding.md R66 c, 20_memory.md R41). -/
def withCell (m : MemorySelect) (x y : Nat) (s : State) (k : GridId → Outcome) : Outcome :=
  match GridId.ofSelect m with
  | none => .refused .reservedSelect
  | some id => if s.params.inRange x y then k id else .refused (.coordinateOutOfRange x y)

/-! ### Transactions and events -/

/-- One host transaction, atomic (30_encoding.md R68). -/
def transact (t : Transaction) (s : State) : Outcome :=
  match t with
  | .wr idx val =>
    match Reg.ofIndex idx with
    | none => .refused (.noSuchRegister idx)
    | some r =>
      if val < 2 ^ r.width s.params then writeRegister r val s
      else .refused (.valueTooWide idx val)
  | .rd idx =>
    match Reg.ofIndex idx with
    | none => .refused (.noSuchRegister idx)
    | some r => .next (readRegister r s)
  | .gwr m x y pix => withCell m x y s fun id => writeCell id x y pix s
  | .grd m x y => withCell m x y s fun id => .next (readCell id x y s)

/-- One event (log 4). -/
def happen (e : HostEvent) (s : State) : Outcome :=
  match e with
  | .bus t => transact t s
  | .reset => .next (resetState s)
  | .coreTurn => coreStep s

/-- The event that happens next taken off the queue; an empty queue is the core's turn (log 4). -/
def nextEvent (s : State) : Outcome :=
  match s.pending with
  | [] => coreStep s
  | e :: rest => happen e { s with pending := rest }

/-- The queue with a command word placed first, as the host's WR CTRL (30_encoding.md R57, log 12). -/
def placeCommand (nbits w : Nat) (s : State) : State :=
  { s with pending := .bus (.wr 0 (tableValue nbits w)) :: s.pending }

end Sys2Proof.Machine
end

