-- ==== Sys2Proof/Machine/Pseudo.lean ====
section
/-! DEFINITION. The pseudo-operations of the host notation (30_encoding.md R70): abbreviations for
transactions, which add no capability. -/

namespace Sys2Proof.Machine

/-- Transactions one after another. -/
def transactAll : List Transaction → State → Outcome
  | [], s => .next s
  | t :: ts, s => andThen (transact t s) (transactAll ts)

/-- `MERGE` = `WR CTRL, 1` (30_encoding.md R70). -/
def pseudoMerge : List Transaction := [.wr 0 1]

/-- `UNMERGE` = `WR CTRL, 3` (30_encoding.md R70). -/
def pseudoUnmerge : List Transaction := [.wr 0 3]

/-- `SETA W, H, MODE` (30_encoding.md R70). -/
def setA (w h mode : Nat) : List Transaction := [.wr 3 w, .wr 4 h, .wr 5 mode]

/-- `SETB W, H` (30_encoding.md R70). -/
def setB (w h : Nat) : List Transaction := [.wr 6 w, .wr 7 h]

/-- The coordinates of a rectangle, x outer and y inner. -/
def rectangle (w h : Nat) : List (Nat × Nat) :=
  (List.range w).flatMap fun x => (List.range h).map fun y => (x, y)

/-- `LOADGRID m, W, H, f` (30_encoding.md R70). -/
def loadGrid (m : MemorySelect) (w h : Nat) (f : Nat → Nat → PixelWord) : List Transaction :=
  (rectangle w h).map fun xy => .gwr m xy.1 xy.2 (f xy.1 xy.2)

/-- `n` turns of the core with no event between them (42_sequencer.md R92). -/
def coreTurns : Nat → State → Outcome
  | 0, s => .next s
  | n + 1, s => andThen (coreStep s) (coreTurns n)

/-- Polls of STATUS until one reads other than 1. After the k-th poll that reads BUSY the core takes
the k-th number of turns in the list; a poll after the last number is the last (30_encoding.md R70;
the turns log 20). -/
def waitPolls : List Nat → State → Outcome
  | [], s => transact (.rd 1) s
  | n :: gaps, s =>
    andThen (transact (.rd 1) s) fun t =>
      if t.reply = .register 1 then andThen (coreTurns n t) (waitPolls gaps) else .next t

/-- `WAIT`: RD STATUS until the value is not 1; the reply is the last value read (30_encoding.md R70).
How many turns the core takes between two polls is left open (70_reset_and_hazards.md R141), so they
are an argument, any numbers, 0 among them. DESIGN CHOICE (log 20): past the numbers given the core
takes one turn between two polls, and no event of `pending` happens during the WAIT. A run in
progress has at most A_W * A_H pixel steps left (42_sequencer.md R94), so that many further polls end
it, and the WAIT never ends in BUSY. -/
def wait (gaps : List Nat) (s : State) : Outcome :=
  waitPolls (gaps ++ List.replicate (s.aW * s.aH) 1) s

/-- One cell of `COPYOUT`: `p <- GRD GO, x, y`; `GWR GA, x, y, p` (30_encoding.md R70). -/
def copyCell (x y : Nat) (s : State) : Outcome :=
  andThen (transact (.grd 0b10 x y) s) fun t =>
    match t.reply with
    | .pixel w => transact (.gwr 0b00 x y w) t
    | .register _ => .next t
    | .none => .next t

/-- The cells of `COPYOUT`, one after another. -/
def copyCells : List (Nat × Nat) → State → Outcome
  | [], s => .next s
  | xy :: rest, s => andThen (copyCell xy.1 xy.2 s) (copyCells rest)

/-- A register read by the host, the value handed on. -/
def hostRead (idx : Nat) (s : State) (k : Nat → State → Outcome) : Outcome :=
  andThen (transact (.rd idx) s) fun t =>
    match t.reply with
    | .register v => k v t
    | .pixel _ => .next t
    | .none => .next t

/-- `COPYOUT`: the window of GO copied into GA and the output descriptor into the A descriptor
(30_encoding.md R70, 70_reset_and_hazards.md R138). -/
def copyOut (s : State) : Outcome :=
  hostRead 8 s fun w s₁ => hostRead 9 s₁ fun h s₂ => hostRead 10 s₂ fun m s₃ =>
    andThen (copyCells (rectangle w h) s₃) (transactAll (setA w h m))

end Sys2Proof.Machine
end

