-- ==== Sys2Proof/WellFormed.lean ====
section
/-! DEFINITION. Which operations the host can issue, and which host transactions are expressible and
have a meaning by their form alone (30_encoding.md R64, R66, R68; 10_state.md R25; 20_memory.md R41). -/

namespace Sys2Proof

/-- An operation is well formed as a command when it has a command word: only the first level has a
host-visible encoding (30_encoding.md R64). The operands of internal operations need no check, for
every byte, nibble and pixel is legal (30_encoding.md R66 f). -/
def Instr.wellFormed (i : Instr) : Bool := decide (i.level = .command)

/-- The register port names a register and carries no more than its width (10_state.md R25 c, d). -/
def Transaction.registerWriteFits (p : Params) (idx val : Nat) : Bool :=
  match Reg.ofIndex idx with
  | some r => decide (val < 2 ^ r.width p)
  | none => false

/-- A transaction whose fields are all legal: a register that exists, a value of its width, a memory
select other than 11, coordinates in range. -/
def Transaction.wellFormed (p : Params) : Transaction → Bool
  | .wr idx val => Transaction.registerWriteFits p idx val
  | .rd idx => (Reg.ofIndex idx).isSome
  | .gwr m x y _ => (GridId.ofSelect m).isSome && p.inRange x y
  | .grd m x y => (GridId.ofSelect m).isSome && p.inRange x y

end Sys2Proof
end

