-- ==== Sys2Proof/Safety.lean ====
section
/-! DEFINITION. What counts as a good state and a safe step, in the terms claims use, and the spec's
closed forms of results (43_merge.md R100, 44_unmerge.md R110, R111). -/

namespace Sys2Proof.Safety

open Sys2Proof.Machine

/-! ### The invariant -/

/-- Every dimension and coordinate register holds a number of DIMW bits (10_state.md R14, R16, R17,
R19). -/
abbrev registersFit (s : State) : Prop :=
  (s.aW < 2 ^ s.params.dimW ∧ s.aH < 2 ^ s.params.dimW ∧ s.bW < 2 ^ s.params.dimW
    ∧ s.bH < 2 ^ s.params.dimW)
  ∧ (s.oW < 2 ^ s.params.dimW ∧ s.oH < 2 ^ s.params.dimW)
  ∧ (s.x < 2 ^ s.params.dimW ∧ s.y < 2 ^ s.params.dimW)
  ∧ (s.boundX < 2 ^ s.params.dimW ∧ s.boundY < 2 ^ s.params.dimW)

/-- The three memories are in canonical form, list only cells that exist, and are numbered by resets
that have happened (10_state.md R26, log 7). -/
abbrev memoriesFormed (s : State) : Prop :=
  (s.ga.wf = true ∧ s.gb.wf = true ∧ s.go.wf = true)
  ∧ (s.ga.within s.params = true ∧ s.gb.within s.params = true ∧ s.go.within s.params = true)
  ∧ (s.ga.epoch ≤ s.draws ∧ s.gb.epoch ≤ s.draws ∧ s.go.epoch ≤ s.draws)

/-- `ERR = 1` exactly when `STATUS = ERROR` (10_state.md R21). -/
abbrev errMatchesStatus (s : State) : Prop := s.err = .sizeError ↔ s.status = .error

/-- A run in progress: legal geometry, the scan position inside the window of GA, the output
descriptor that of the input, a payload that fits (MERGE), a bound inside the grid (UNMERGE)
(10_state.md R15, R17, R19). -/
abbrev runInProgress (s : State) : Prop :=
  s.status = .busy →
    legalGeometry s.opr s = true
    ∧ (s.x < s.aW ∧ s.y < s.aH)
    ∧ (s.oW = s.aW ∧ s.oH = s.aH ∧ s.oMode = s.aMode)
    ∧ (s.opr = .merge → sizeOk s = true)
    ∧ (s.opr = .unmerge → (1 ≤ s.boundX ∧ s.boundX ≤ s.aW) ∧ (1 ≤ s.boundY ∧ s.boundY ≤ s.aH))

/-- A returned grid is never empty and fits the memory GO (44_unmerge.md R114, 10_state.md R15). -/
abbrev resultIsAGrid (s : State) : Prop :=
  s.status = .done →
    (1 ≤ s.oW ∧ s.oW ≤ s.params.maxW) ∧ (1 ≤ s.oH ∧ s.oH ≤ s.params.maxH)

/-- The invariant of the machine: it holds after reset and every step keeps it. -/
abbrev GoodState (s : State) : Prop :=
  s.params.legal = true ∧ registersFit s ∧ memoriesFormed s ∧ errMatchesStatus s
    ∧ runInProgress s ∧ resultIsAGrid s

/-! ### Safe steps and runs -/

/-- The step answers a next state: it neither faults nor is refused. -/
def StepsOn (o : Outcome) : Prop := ∃ t, o = .next t

/-- The host keeps its duties at the next event: a transaction that is well formed, no write of an
input or a memory in BUSY, no START outside BUSY on illegal geometry
(70_reset_and_hazards.md R132, R134). -/
def hostKeepsDuties (s : State) : Prop :=
  ∀ t rest, s.pending = .bus t :: rest →
    t.wellFormed s.params = true
    ∧ (∀ idx v, t = .wr idx v → s.status = .busy → idx < 3 ∨ 7 < idx)
    ∧ (∀ m x y p, t = .gwr m x y p → s.status ≠ .busy)
    ∧ (t = .wr 0 1 → s.status ≠ .busy → legalGeometry .merge s = true)
    ∧ (t = .wr 0 3 → s.status ≠ .busy → legalGeometry .unmerge s = true)

/-- `n` steps of the machine. -/
def runSteps (n : Nat) (s : State) : Outcome := Host.Core.run Sys2Proof.core n s

/-- The pixel steps a run in progress still has to take (42_sequencer.md R90, R94). -/
def stepsLeft (s : State) : Nat := (s.aW - s.x) * s.aH - s.y

/-! ### Closed forms of results -/

/-- The value column of STATUS (10_state.md R20). -/
def statusValue (v : Status) : Nat :=
  if v = .idle then 0 else if v = .busy then 1 else if v = .done then 2 else 3

/-- The value column of ERR (10_state.md R21). -/
def errValue (v : Err) : Nat := if v = .none then 0 else 1

/-- A stego lane, `(c & 0xF0) | (p >> 4)` (40_channel_datapath.md R76). -/
def stegoLane (c p : Byte) : Byte := (c &&& 0xF0#8) ||| (p >>> 4)

/-- A recovered lane, `(v & 0x0F) << 4` (40_channel_datapath.md R77). -/
def recoveredLane (v : Byte) : Byte := (v &&& 0x0F#8) <<< 4

/-- A lane with its low nibble cleared, `p & 0xF0` (40_channel_datapath.md R78). -/
def keptLane (p : Byte) : Byte := p &&& 0xF0#8

/-- The stego pixel, lane by lane (41_pixel_ops.md R81). -/
def stegoPixel (c p : Pixel) : Pixel := ⟨stegoLane c.r p.r, stegoLane c.g p.g, stegoLane c.b p.b⟩

/-- The recovered pixel, lane by lane (41_pixel_ops.md R82). -/
def recoveredPixel (q : Pixel) : Pixel :=
  ⟨recoveredLane q.r, recoveredLane q.g, recoveredLane q.b⟩

/-- A pixel with every low nibble cleared (41_pixel_ops.md R84). -/
def keptPixel (p : Pixel) : Pixel := ⟨keptLane p.r, keptLane p.g, keptLane p.b⟩

/-- The payload pixel at (x, y), black outside the payload (41_pixel_ops.md R80). -/
def payloadAt (s : State) (x y : Nat) : Pixel :=
  if x < s.bW ∧ y < s.bH then s.pixelAt .gb x y else ⟨0, 0, 0⟩

/-- `nb(x, y)` of 44_unmerge.md R110: some channel of the stego pixel has a non-zero low nibble. -/
def litAt (s : State) (x y : Nat) : Prop :=
  (s.pixelAt .ga x y).r &&& 0x0F#8 ≠ 0 ∨ (s.pixelAt .ga x y).g &&& 0x0F#8 ≠ 0
    ∨ (s.pixelAt .ga x y).b &&& 0x0F#8 ≠ 0

/-- The closed form of the final bound (44_unmerge.md R110) for a W × H grid whose non-black
coordinates are those with `nb`: (1, 1) when there is none, else one past the lowest non-black
pixel of the right-most column that holds one. -/
def IsCropBound (nb : Nat → Nat → Prop) (w h bx bY : Nat) : Prop :=
  ((∀ x y, x < w → y < h → ¬ nb x y) → bx = 1 ∧ bY = 1)
  ∧ ∀ xs ys, xs < w → ys < h → nb xs ys →
      (∀ x y, x < w → y < h → nb x y → x ≤ xs) →
      (∀ y, y < h → nb xs y → y ≤ ys) →
      bx = xs + 1 ∧ bY = ys + 1

end Sys2Proof.Safety
end

