-- ==== Sys2Proof/Certificates/Slice0/Obligations.lean ====
section
/-! DEFINITION. The statements about the core, taken from the numbered rules of spec/. A statement
whose conclusion is an equation `exec i s = .next …` says the result, the frame (every field the
record update does not name is unchanged) and that the operation completes. The field `result` of
the right-hand sides is the model's own name for the result of an internal operation (log 3). -/

open Sys2Proof Sys2Proof.Machine Sys2Proof.Safety

/-! ### Encodings -/

/-- 30_encoding.md R58: the four command words and the mask and match forms. -/
def Obligations.CommandMapIsTotal : Prop :=
  (decodeCommand 0b01#2 = .merge ∧ decodeCommand 0b11#2 = .unmerge
    ∧ decodeCommand 0b00#2 = .nop0 ∧ decodeCommand 0b10#2 = .nop2)
  ∧ (∀ w : CommandWord, (w &&& 0b11#2 = 0b01#2 ↔ decodeCommand w = .merge)
    ∧ (w &&& 0b11#2 = 0b11#2 ↔ decodeCommand w = .unmerge)
    ∧ (w &&& 0b11#2 = 0b00#2 ↔ decodeCommand w = .nop0)
    ∧ (w &&& 0b11#2 = 0b10#2 ↔ decodeCommand w = .nop2)
    ∧ (w &&& 0b01#2 = 0b00#2 ↔ (decodeCommand w = .nop0 ∨ decodeCommand w = .nop2)))

/-- Decode and encode agree: the command words (30_encoding.md R58, R64), the packed pixel word (R60),
the memory select (R68), the register indices (10_state.md R24). The clauses about opcode-table words
and bytes are the model's choice (log 12), for the spec gives no byte form: a command is its 2 bits
in the low bits of the first byte, with any other bit of the bytes set there is none, and of a table
word only the lowest 8 bits are looked at. -/
def Obligations.EncodingsRoundTrip : Prop :=
  (∀ i : Instr, i.wellFormed = true ↔ ∃ w, encode i = some w)
  ∧ (∀ (i : Instr) (w : CommandWord), encode i = some w ↔ i.wellFormed = true ∧ decodeCommand w = i)
  ∧ (∀ (i : Instr) (v : Nat), decodeTableWord 8 v = some i ↔
      ∃ w : CommandWord, encode i = some w ∧ v % 256 = w.toNat)
  ∧ (∀ (b : Byte) (bs : List Byte) (i : Instr), decodeBytes (b :: bs) = .ok i ↔
      (∃ w : CommandWord, encode i = some w ∧ b.toNat = w.toNat) ∧ ∀ c ∈ bs, c = 0)
  ∧ (∀ p : Pixel, pixelOfWord (wordOfPixel p) = p)
  ∧ (∀ w : PixelWord, wordOfPixel (pixelOfWord w) = w)
  ∧ (∀ (m : MemorySelect) (id : GridId), GridId.ofSelect m = some id ↔ GridId.select id = m)
  ∧ (∀ (n : Nat) (r : Reg), Reg.ofIndex n = some r ↔ Reg.index r = n)

/-- 30_encoding.md R60: R is bits 23..16, G bits 15..8, B bits 7..0 of the pixel word, and the word
of (192, 97, 49) is 0xC06131. -/
def Obligations.PixelWordLayout : Prop :=
  (∀ w : PixelWord, (pixelOfWord w).r.toNat = w.toNat / 65536
    ∧ (pixelOfWord w).g.toNat = w.toNat / 256 % 256 ∧ (pixelOfWord w).b.toNat = w.toNat % 256)
  ∧ (∀ p : Pixel, (wordOfPixel p).toNat = p.r.toNat * 65536 + p.g.toNat * 256 + p.b.toNat)
  ∧ wordOfPixel ⟨192, 97, 49⟩ = 0xC06131#24

/-! ### The channel datapath -/

/-- 40_channel_datapath.md R72, R73: HI4 and LO4, the shift and the mask, as operations. -/
def Obligations.NibbleExtraction : Prop :=
  ∀ (v : Byte) (s : State),
    exec (.hi4 v) s = .next { s with result := .nibble ((v >>> 4).setWidth 4) }
    ∧ exec (.lo4 v) s = .next { s with result := .nibble ((v &&& 0x0F#8).setWidth 4) }
    ∧ (highNibble v).toNat = v.toNat / 16 ∧ (lowNibble v).toNat = v.toNat % 16

/-- 40_channel_datapath.md R74, R75: PACK and EXPAND, the shift and the OR, as operations. -/
def Obligations.NibblePacking : Prop :=
  ∀ (hn ln n : Nibble) (s : State),
    exec (.pack hn ln) s =
      .next { s with result := .byte ((hn.setWidth 8 <<< 4) ||| ln.setWidth 8) }
    ∧ exec (.expand n) s = .next { s with result := .byte (n.setWidth 8 <<< 4) }
    ∧ (packNibbles hn ln).toNat = 16 * hn.toNat + ln.toNat
    ∧ (expandNibble n).toNat = 16 * n.toNat

/-- 40_channel_datapath.md section 2 (the derived law at PACK): PACK is a bijection with inverse
HI4, LO4, as operations run one after the other. -/
def Obligations.PackIsABijection : Prop :=
  (∀ (a b : Nibble) (s t : State) (v : Byte),
    exec (.pack a b) s = .next t → t.result = .byte v →
      exec (.hi4 v) t = .next { t with result := .nibble a }
      ∧ exec (.lo4 v) t = .next { t with result := .nibble b })
  ∧ ∀ (v : Byte) (s : State), ∃ a b : Nibble,
      exec (.hi4 v) s = .next { s with result := .nibble a }
      ∧ exec (.lo4 v) s = .next { s with result := .nibble b }
      ∧ exec (.pack a b) s = .next { s with result := .byte v }

/-- 40_channel_datapath.md R76: MERGE_CH(c, p) = (c & 0xF0) | (p >> 4). -/
def Obligations.MergeChannelResult : Prop :=
  ∀ (c p : Byte) (s : State),
    exec (.mergeCh c p) s = .next { s with result := .byte ((c &&& 0xF0#8) ||| (p >>> 4)) }

/-- 40_channel_datapath.md R77: UNMERGE_CH(v) = (v & 0x0F) << 4. -/
def Obligations.UnmergeChannelResult : Prop :=
  ∀ (v : Byte) (s : State),
    exec (.unmergeCh v) s = .next { s with result := .byte ((v &&& 0x0F#8) <<< 4) }

/-- 40_channel_datapath.md section 4 (derived): UNMERGE_CH(MERGE_CH(c, p)) = p & 0xF0, run as two
operations, the second on the result of the first. -/
def Obligations.ChannelRoundTrip : Prop :=
  ∀ (c p v : Byte) (s t : State),
    exec (.mergeCh c p) s = .next t → t.result = .byte v →
      exec (.unmergeCh v) t = .next { s with result := .byte (p &&& 0xF0#8) }

/-- 40_channel_datapath.md section 3 (derived): a merged channel differs from the carrier's by at most 15. -/
def Obligations.MergedChannelStaysClose : Prop :=
  ∀ (c p v : Byte) (s t : State),
    exec (.mergeCh c p) s = .next t → t.result = .byte v →
      v.toNat ≤ c.toNat + 15 ∧ c.toNat ≤ v.toNat + 15

/-! ### Pixel operations -/

/-- 41_pixel_ops.md R80: PSEL gives the payload pixel inside the payload and black outside it,
whatever GB holds there. Inside, the cell must exist (x < MAXW, y < MAXH), as a legal payload's do. -/
def Obligations.PayloadSelection : Prop :=
  ∀ s : State,
    (¬ (s.x < s.bW ∧ s.y < s.bH) → exec .psel s = .next { s with result := .pixel ⟨0, 0, 0⟩ })
    ∧ (s.x < s.bW → s.y < s.bH → s.bW ≤ s.params.maxW → s.bH ≤ s.params.maxH →
        exec .psel s = .next { s with result := .pixel (s.pixelAt .gb s.x s.y) })

/-- A cell outside the memories is never read: PSEL with a payload register above MAXW or MAXH and a
scan position beyond them faults (the model's choice, log 11; 20_memory.md section 4). -/
def Obligations.PayloadSelectionFaults : Prop :=
  ∀ s : State, s.x < s.bW → s.y < s.bH → (s.params.maxW ≤ s.x ∨ s.params.maxH ≤ s.y) →
    exec .psel s = .fault (.cellOutsideMemory .gb s.x s.y)

/-- 41_pixel_ops.md R81, R82: MERGE_PX and UNMERGE_PX, the channel function on each lane. -/
def Obligations.PixelTransforms : Prop :=
  ∀ (c p : Pixel) (s : State),
    exec (.mergePx c p) s = .next { s with result := .pixel (stegoPixel c p) }
    ∧ exec (.unmergePx c) s = .next { s with result := .pixel (recoveredPixel c) }

/-- 41_pixel_ops.md R83: NONBLACK is true when at least one channel is not 0. -/
def Obligations.BlackTest : Prop :=
  ∀ (q : Pixel) (s : State),
    ((q.r ≠ 0 ∨ q.g ≠ 0 ∨ q.b ≠ 0) → exec (.nonblack q) s = .next { s with result := .bit true })
    ∧ (q = ⟨0, 0, 0⟩ → exec (.nonblack q) s = .next { s with result := .bit false })

/-- 41_pixel_ops.md section 3 (derived): the pixel round trip and its black test, run as operations
one after the other. -/
def Obligations.PixelRoundTrip : Prop :=
  ∀ (c p m r : Pixel) (s t u : State),
    exec (.mergePx c p) s = .next t → t.result = .pixel m →
    exec (.unmergePx m) t = .next u → u.result = .pixel r →
      r = ⟨p.r &&& 0xF0#8, p.g &&& 0xF0#8, p.b &&& 0xF0#8⟩
      ∧ ((16 ≤ p.r.toNat ∨ 16 ≤ p.g.toNat ∨ 16 ≤ p.b.toNat) →
          exec (.nonblack r) u = .next { u with result := .bit true })
      ∧ ((p.r.toNat < 16 ∧ p.g.toNat < 16 ∧ p.b.toNat < 16) →
          exec (.nonblack r) u = .next { u with result := .bit false })

/-! ### Sequencer operations -/

/-- 43_merge.md section 1: SIZECHK per axis, and SizeError when it fails. That the arm of SIZECHK
itself takes the exception is the model's reading (log 17). -/
def Obligations.SizeCheck : Prop :=
  ∀ s : State,
    (s.bW ≤ s.aW → s.bH ≤ s.aH → exec .sizechk s = .next { s with result := .bit true })
    ∧ ((s.aW < s.bW ∨ s.aH < s.bH) → exec .sizechk s =
        .next { s with result := .bit false, status := .error, err := .sizeError })

/-- 42_sequencer.md R91: SCAN_ADV at every scan position of a legal grid: nothing at the last
coordinate, the next column at the end of a column, else the next row. -/
def Obligations.ScanAdvance : Prop :=
  ∀ s : State, s.params.legal = true → s.x < s.aW → s.aW ≤ s.params.maxW →
    s.y < s.aH → s.aH ≤ s.params.maxH →
    exec .scanAdv s = .next
      (if s.x = s.aW - 1 ∧ s.y = s.aH - 1 then s
       else if s.y = s.aH - 1 then { s with x := s.x + 1, y := 0 }
       else { s with y := s.y + 1 })

/-- 44_unmerge.md R107: BOUND_UPD overwrites the bound with (X + 1, Y + 1) at every coordinate that
exists. -/
def Obligations.BoundUpdate : Prop :=
  ∀ s : State, s.params.legal = true → s.x < s.params.maxW → s.y < s.params.maxH →
    exec .boundUpd s = .next { s with boundX := s.x + 1, boundY := s.y + 1 }

/-- 44_unmerge.md R108: CROP narrows the window of GO to the bound and moves no pixel. -/
def Obligations.CropNarrowsTheWindow : Prop :=
  ∀ s : State, exec .crop s = .next { s with oW := s.boundX, oH := s.boundY }

/-! ### Commands -/

/-- 30_encoding.md R65: a CTRL write with START = 0 has no effect whatever, in every status. -/
def Obligations.NoEffectWords : Prop :=
  ∀ s : State, exec .nop0 s = .next s ∧ exec .nop2 s = .next s
    ∧ transact (.wr 0 0) s = .next s ∧ transact (.wr 0 2) s = .next s

/-- 43_merge.md R98, 60_exceptions.md R118: an accepted MERGE, in IDLE, DONE and ERROR: the start step
when the payload fits, else SizeError and nothing else (OPR is loaded in both). -/
def Obligations.MergeStartStep : Prop :=
  ∀ s : State, s.status ≠ .busy →
    (1 ≤ s.aW ∧ s.aW ≤ s.params.maxW) → (1 ≤ s.aH ∧ s.aH ≤ s.params.maxH) →
    (s.bW ≤ s.params.maxW ∧ s.bH ≤ s.params.maxH) →
    (s.bW ≤ s.aW → s.bH ≤ s.aH → exec .merge s =
      .next { s with opr := .merge, err := .none, oW := s.aW, oH := s.aH, oMode := s.aMode,
                     x := 0, y := 0, status := .busy })
    ∧ ((s.aW < s.bW ∨ s.aH < s.bH) → exec .merge s =
      .next { s with opr := .merge, status := .error, err := .sizeError })

/-- 44_unmerge.md R105: an accepted UNMERGE, in IDLE, DONE and ERROR; B_W and B_H are not looked at. -/
def Obligations.UnmergeStartStep : Prop :=
  ∀ s : State, s.status ≠ .busy →
    (1 ≤ s.aW ∧ s.aW ≤ s.params.maxW) → (1 ≤ s.aH ∧ s.aH ≤ s.params.maxH) →
    exec .unmerge s =
      .next { s with opr := .unmerge, err := .none, oW := s.aW, oH := s.aH, oMode := s.aMode,
                     boundX := 1, boundY := 1, x := 0, y := 0, status := .busy }

/-- 42_sequencer.md R88: a START in BUSY has no effect. -/
def Obligations.StartInBusyIsIgnored : Prop :=
  ∀ s : State, s.status = .busy →
    exec .merge s = .next s ∧ exec .unmerge s = .next s
    ∧ transact (.wr 0 1) s = .next s ∧ transact (.wr 0 3) s = .next s

/-- 42_sequencer.md R89, 10_state.md R15: a START outside BUSY on illegal geometry is refused, before
the size check, and only then. -/
def Obligations.IllegalGeometryIsRefused : Prop :=
  ∀ s : State, s.status ≠ .busy →
    ((s.aW = 0 ∨ s.params.maxW < s.aW ∨ s.aH = 0 ∨ s.params.maxH < s.aH
        ∨ s.params.maxW < s.bW ∨ s.params.maxH < s.bH) ↔
      exec .merge s = .refused .illegalGeometry)
    ∧ ((s.aW = 0 ∨ s.params.maxW < s.aW ∨ s.aH = 0 ∨ s.params.maxH < s.aH) ↔
      exec .unmerge s = .refused .illegalGeometry)

/-- 10_state.md sections 2 and 8: no operation writes an input descriptor register or a pixel of any
memory, nor a parameter or the events to come. -/
def Obligations.OperationsKeepTheInputs : Prop :=
  ∀ (i : Instr) (s t : State), exec i s = .next t →
    (t.aW = s.aW ∧ t.aH = s.aH ∧ t.aMode = s.aMode ∧ t.bW = s.bW ∧ t.bH = s.bH)
    ∧ (∀ id x y, t.pixelAt id x y = s.pixelAt id x y)
    ∧ t.params = s.params ∧ t.pending = s.pending ∧ t.reply = s.reply ∧ t.draws = s.draws

/-- 60_exceptions.md section 1: in a step of the machine only an accepted MERGE whose payload is too
wide or too high brings ERR to 1. -/
def Obligations.OnlyAnOversizePayloadRaises : Prop :=
  ∀ s t : State, step s = .next t → t.err = .sizeError →
    s.err = .sizeError
    ∨ (∃ rest, s.pending = .bus (.wr 0 1) :: rest) ∧ s.status ≠ .busy ∧ t.status = .error
        ∧ (s.aW < s.bW ∨ s.aH < s.bH)

/-! ### Steps -/

/-- A step runs the decoded command: the host's WR CTRL at the head of the events is the operation
its word decodes to, run on the state with that event taken off (log 12). -/
def Obligations.StepRunsTheCommand : Prop :=
  (∀ (s : State) (w : CommandWord) (rest : List HostEvent),
    s.pending = .bus (.wr 0 w.toNat) :: rest →
      step s = exec (decodeCommand w) { s with pending := rest })
  ∧ ∀ (s : State) (nbits v : Nat) (i : Instr), decodeTableWord nbits v = some i →
      step (s.withFetchWord nbits v) = exec i s

/-- What a step runs when its event is not a command (log 4): any event is taken off the queue and
happens; without one it is the core's turn. -/
def Obligations.StepTakesTheNextEvent : Prop :=
  (∀ s : State, s.pending = [] → step s = coreStep s)
  ∧ (∀ (s : State) (rest : List HostEvent), s.pending = .coreTurn :: rest →
      step s = coreStep { s with pending := rest })
  ∧ (∀ (s : State) (rest : List HostEvent), s.pending = .reset :: rest →
      step s = .next (resetState { s with pending := rest }))
  ∧ ∀ (s : State) (t : Transaction) (rest : List HostEvent), s.pending = .bus t :: rest →
      step s = transact t { s with pending := rest }

/-- 42_sequencer.md R86: outside BUSY the core changes nothing. -/
def Obligations.CoreIsQuiescent : Prop :=
  ∀ s : State, s.status ≠ .busy → s.pending = [] → step s = .next s

/-- 43_merge.md section 2, 42_sequencer.md sections 3 and 4: the core's step in a MERGE run: one cell
of GO, the carrier's high nibbles over the payload pixel's, and the advance or the end of the run;
nothing else. That X, Y, OPR and the bound keep their values at the end of the run is the model's
choice (log 19). -/
def Obligations.MergePixelStep : Prop :=
  ∀ s : State, GoodState s → s.pending = [] → s.status = .busy → s.opr = .merge →
    ∃ t, step s = .next t
      ∧ t.pixelAt .go s.x s.y = stegoPixel (s.pixelAt .ga s.x s.y) (payloadAt s s.x s.y)
      ∧ (∀ x y, ¬ (x = s.x ∧ y = s.y) → t.pixelAt .go x y = s.pixelAt .go x y)
      ∧ (s.x = s.aW - 1 → s.y = s.aH - 1 →
          t = { s with go := t.go, result := .none, status := .done })
      ∧ (s.x ≠ s.aW - 1 → s.y = s.aH - 1 →
          t = { s with go := t.go, result := .none, x := s.x + 1, y := 0 })
      ∧ (s.y ≠ s.aH - 1 → t = { s with go := t.go, result := .none, y := s.y + 1 })

/-- 44_unmerge.md section 1, 42_sequencer.md sections 3 and 4: the core's step in an UNMERGE run: one
cell of GO, the low nibbles moved up; the bound one past this position when some lane is not black;
and the advance, or the crop and the end of the run; nothing else. That X, Y, OPR and the bound keep
their values at the end of the run is the model's choice (log 19). -/
def Obligations.UnmergePixelStep : Prop :=
  ∀ s : State, GoodState s → s.pending = [] → s.status = .busy → s.opr = .unmerge →
    ∃ t, step s = .next t
      ∧ t.pixelAt .go s.x s.y = recoveredPixel (s.pixelAt .ga s.x s.y)
      ∧ (∀ x y, ¬ (x = s.x ∧ y = s.y) → t.pixelAt .go x y = s.pixelAt .go x y)
      ∧ (litAt s s.x s.y → t.boundX = s.x + 1 ∧ t.boundY = s.y + 1)
      ∧ (¬ litAt s s.x s.y → t.boundX = s.boundX ∧ t.boundY = s.boundY)
      ∧ (s.x = s.aW - 1 → s.y = s.aH - 1 →
          t = { s with go := t.go, result := .none, boundX := t.boundX, boundY := t.boundY,
                       oW := t.boundX, oH := t.boundY, status := .done })
      ∧ (s.x ≠ s.aW - 1 → s.y = s.aH - 1 →
          t = { s with go := t.go, result := .none, boundX := t.boundX, boundY := t.boundY,
                       x := s.x + 1, y := 0 })
      ∧ (s.y ≠ s.aH - 1 →
          t = { s with go := t.go, result := .none, boundX := t.boundX, boundY := t.boundY,
                       y := s.y + 1 })

/-- 42_sequencer.md R93: FINISH: DONE at the last coordinate, ERR already 0; the bound becomes the
size of an UNMERGE result, a MERGE result keeps the carrier's. -/
def Obligations.FinishEndsTheRun : Prop :=
  ∀ s : State, GoodState s → s.pending = [] → s.status = .busy →
    s.x = s.aW - 1 → s.y = s.aH - 1 →
    ∃ t, step s = .next t ∧ t.status = .done ∧ t.err = .none ∧ t.oMode = s.aMode
      ∧ (s.opr = .merge → t.oW = s.aW ∧ t.oH = s.aH)
      ∧ (s.opr = .unmerge → t.oW = t.boundX ∧ t.oH = t.boundY)

/-- 30_encoding.md section 3: a pixel step of the sequencer gives what its internal operations give
when they are run one after the other. -/
def Obligations.PixelStepsAreTheirOperations : Prop :=
  ∀ s t : State, s.pending = [] → s.status = .busy → step s = .next t →
    (s.opr = .merge → ∃ (p o : Pixel) (u v : State),
      exec .psel s = .next u ∧ u.result = .pixel p
      ∧ exec (.mergePx (s.pixelAt .ga s.x s.y) p) u = .next v ∧ v.result = .pixel o
      ∧ t.pixelAt .go s.x s.y = o)
    ∧ (s.opr = .unmerge → ∃ (o : Pixel) (b : Bool) (u v w : State),
      exec (.unmergePx (s.pixelAt .ga s.x s.y)) s = .next u ∧ u.result = .pixel o
      ∧ exec (.nonblack o) u = .next v ∧ v.result = .bit b
      ∧ exec .boundUpd v = .next w
      ∧ t.pixelAt .go s.x s.y = o
      ∧ (b = true → t.boundX = w.boundX ∧ t.boundY = w.boundY)
      ∧ (b = false → t.boundX = s.boundX ∧ t.boundY = s.boundY))

/-! ### Memory -/

/-- 20_memory.md R37: a pixel write replaces the whole pixel of one cell, and changes no other cell
of any memory and no register. -/
def Obligations.PixelWriteReplacesOneCell : Prop :=
  ∀ (s : State) (id : GridId) (x y : Nat) (p : Pixel),
    (s.setPixel id x y p).pixelAt id x y = p
    ∧ (∀ id' a b, ¬ (id' = id ∧ a = x ∧ b = y) →
        (s.setPixel id x y p).pixelAt id' a b = s.pixelAt id' a b)
    ∧ { s.setPixel id x y p with ga := s.ga, gb := s.gb, go := s.go } = s

/-- The canonical form of the memories (log 7): a pixel write keeps it, and two memories of one reset
in that form that hold the same written pixels are the same data. -/
def Obligations.MemoryFormIsCanonical : Prop :=
  (∀ (m : Memory) (x y : Nat) (p : Pixel), m.wf = true → (m.write x y p).wf = true)
  ∧ ∀ m n : Memory, m.wf = true → n.wf = true → m.epoch = n.epoch →
      (∀ x y, lookupCell m.cells x y = lookupCell n.cells x y) → m = n

/-- 20_memory.md section 7 (order of pixel steps): two writes to different cells give the same memory
in either order, for memories in canonical form. -/
def Obligations.PixelWritesCommute : Prop :=
  ∀ (m : Memory) (x y a b : Nat) (p q : Pixel), m.wf = true → ¬ (x = a ∧ y = b) →
    (m.write x y p).write a b q = (m.write a b q).write x y p

/-! ### Host transactions -/

/-- 10_state.md section 7: (a) writes of read-only registers change nothing; (b) a read returns the
last value written; (d) an index that is no register is refused; (e) input registers are frozen in
BUSY; (f) output registers read as a draw in BUSY (a free value, log 6). That a value the port cannot
carry is refused is the model's choice (log 10): the spec only calls it not expressible. -/
def Obligations.RegisterAccess : Prop :=
  (∀ (s : State) (idx v : Nat), idx ∈ [1, 2, 8, 9, 10] → Transaction.registerWriteFits s.params idx v →
    transact (.wr idx v) s = .next s)
  ∧ (∀ (s t : State) (idx v : Nat), 3 ≤ idx → idx ≤ 7 → transact (.wr idx v) s = .next t →
      transact (.rd idx) t = .next { t with reply := .register v })
  ∧ (∀ (s : State) (idx v : Nat), idx ≤ 10 → Transaction.registerWriteFits s.params idx v = false →
      transact (.wr idx v) s = .refused (.valueTooWide idx v))
  ∧ (∀ (s : State) (idx v : Nat), 11 ≤ idx →
      transact (.wr idx v) s = .refused (.noSuchRegister idx)
      ∧ transact (.rd idx) s = .refused (.noSuchRegister idx))
  ∧ (∀ (s : State) (idx v : Nat), s.status = .busy → 3 ≤ idx → idx ≤ 7 →
      Transaction.registerWriteFits s.params idx v → transact (.wr idx v) s = .refused .writeWhileBusy)
  ∧ ∀ (s : State) (idx : Nat), s.status = .busy → 8 ≤ idx → idx ≤ 10 →
      ∃ v, transact (.rd idx) s = .next { s with reply := .register v, draws := s.draws + 1 }

/-- 10_state.md section 7: a host write of an input register outside BUSY stores the value and
changes nothing else. -/
def Obligations.InputRegisterWrites : Prop :=
  ∀ (s : State) (v : Nat), s.status ≠ .busy →
    (v < 2 ^ s.params.dimW →
      transact (.wr 3 v) s = .next { s with aW := v } ∧ transact (.wr 4 v) s = .next { s with aH := v }
      ∧ transact (.wr 6 v) s = .next { s with bW := v }
      ∧ transact (.wr 7 v) s = .next { s with bH := v })
    ∧ (v < 256 → transact (.wr 5 v) s = .next { s with aMode := BitVec.ofNat 8 v })

/-- 10_state.md sections 5 and 7: what each register reads as; CTRL reads 0; STATUS, ERR and the input
registers read correctly in every status, the output registers in DONE. That the output registers
read as held in IDLE and ERROR too is the model's reading (log 9). -/
def Obligations.RegisterReads : Prop :=
  ∀ s : State,
    (transact (.rd 0) s = .next { s with reply := .register 0 }
      ∧ transact (.rd 1) s = .next { s with reply := .register (statusValue s.status) }
      ∧ transact (.rd 2) s = .next { s with reply := .register (errValue s.err) })
    ∧ (transact (.rd 3) s = .next { s with reply := .register s.aW }
      ∧ transact (.rd 4) s = .next { s with reply := .register s.aH }
      ∧ transact (.rd 5) s = .next { s with reply := .register s.aMode.toNat }
      ∧ transact (.rd 6) s = .next { s with reply := .register s.bW }
      ∧ transact (.rd 7) s = .next { s with reply := .register s.bH })
    ∧ (s.status ≠ .busy →
        transact (.rd 8) s = .next { s with reply := .register s.oW }
        ∧ transact (.rd 9) s = .next { s with reply := .register s.oH }
        ∧ transact (.rd 10) s = .next { s with reply := .register s.oMode.toNat })

/-- 20_memory.md sections 2 and 8, 30_encoding.md sections 1 and 6: outside BUSY a grid write stores
the pixel of its word in the selected memory, and a read of GA or GB in any status, or of GO in DONE
inside the window, returns the word of the pixel held and changes nothing else. That GO reads as held
in IDLE and ERROR too is the model's reading (log 9). -/
def Obligations.GridPort : Prop :=
  ∀ (s : State) (id : GridId) (x y : Nat) (w : PixelWord),
    x < s.params.maxW → y < s.params.maxH →
    (s.status ≠ .busy → transact (.gwr (GridId.select id) x y w) s =
      .next (s.setPixel id x y ⟨w.extractLsb' 16 8, w.extractLsb' 8 8, w.extractLsb' 0 8⟩))
    ∧ ((id ≠ .go ∨ s.status = .idle ∨ s.status = .error
          ∨ (s.status = .done ∧ x < s.oW ∧ y < s.oH)) →
        transact (.grd (GridId.select id) x y) s =
          .next { s with reply := .pixel (wordOfPixel (s.pixelAt id x y)) })

/-- 70_reset_and_hazards.md R134: inputs and memories are frozen in BUSY: the write is refused, while
reads of the inputs and of GA and GB give what they hold. -/
def Obligations.InputsAreFrozenInBusy : Prop :=
  ∀ s : State, s.status = .busy →
    (∀ v, v < 2 ^ s.params.dimW →
      transact (.wr 3 v) s = .refused .writeWhileBusy ∧ transact (.wr 4 v) s = .refused .writeWhileBusy
      ∧ transact (.wr 6 v) s = .refused .writeWhileBusy
      ∧ transact (.wr 7 v) s = .refused .writeWhileBusy)
    ∧ (∀ v, v < 256 → transact (.wr 5 v) s = .refused .writeWhileBusy)
    ∧ (∀ id x y w, x < s.params.maxW → y < s.params.maxH →
        transact (.gwr (GridId.select id) x y w) s = .refused .writeWhileBusy)
    ∧ (∀ idx, 3 ≤ idx → idx ≤ 7 → ∃ r, Reg.ofIndex idx = some r
        ∧ transact (.rd idx) s = .next { s with reply := .register (s.readRegister r) })
    ∧ ∀ x y, x < s.params.maxW → y < s.params.maxH →
        transact (.grd 0b00 x y) s = .next { s with reply := .pixel (wordOfPixel (s.pixelAt .ga x y)) }
        ∧ transact (.grd 0b01 x y) s =
            .next { s with reply := .pixel (wordOfPixel (s.pixelAt .gb x y)) }

/-- 70_reset_and_hazards.md R135: in BUSY a host read of O_W, O_H, O_MODE or a cell of GO returns some
value of the right width and changes no state of the core; STATUS and ERR read correctly at all
times. The value is a free value (log 6): nothing but its width is said. -/
def Obligations.OutputsAreDrawsInBusy : Prop :=
  ∀ s : State,
    (s.status = .busy →
      (∀ idx, idx = 8 ∨ idx = 9 → ∃ v, v < 2 ^ s.params.dimW
        ∧ transact (.rd idx) s = .next { s with reply := .register v, draws := s.draws + 1 })
      ∧ (∃ v, v < 256
        ∧ transact (.rd 10) s = .next { s with reply := .register v, draws := s.draws + 1 })
      ∧ ∀ x y, x < s.params.maxW → y < s.params.maxH → ∃ w, transact (.grd 0b10 x y) s =
          .next { s with reply := .pixel w, draws := s.draws + 1 })
    ∧ transact (.rd 1) s = .next { s with reply := .register (statusValue s.status) }
    ∧ transact (.rd 2) s = .next { s with reply := .register (errValue s.err) }

/-- 44_unmerge.md R109: in DONE a host read of a cell of GO outside the result window returns a draw
(a free value, log 6). -/
def Obligations.CellsOutsideTheCropAreDraws : Prop :=
  ∀ (s : State) (x y : Nat), s.status = .done → (s.oW ≤ x ∨ s.oH ≤ y) →
    x < s.params.maxW → y < s.params.maxH →
    ∃ w, transact (.grd 0b10 x y) s =
      .next { s with reply := .pixel w, draws := s.draws + 1 }

/-- 30_encoding.md section 4 (c), 20_memory.md section 4: the reserved memory select and a coordinate
out of range are refused, read or write. -/
def Obligations.GridPortRefusals : Prop :=
  ∀ (s : State) (x y : Nat) (w : PixelWord),
    (transact (.gwr 0b11 x y w) s = .refused .reservedSelect
      ∧ transact (.grd 0b11 x y) s = .refused .reservedSelect)
    ∧ ∀ id : GridId, (s.params.maxW ≤ x ∨ s.params.maxH ≤ y) →
        transact (.gwr (GridId.select id) x y w) s = .refused (.coordinateOutOfRange x y)
        ∧ transact (.grd (GridId.select id) x y) s = .refused (.coordinateOutOfRange x y)

/-! ### Reset -/

/-- 10_state.md R32: the state after reset; no cell of a memory is written, so every one reads as
its draw. -/
def Obligations.ResetValues : Prop :=
  (State.reset.status = .idle ∧ State.reset.err = .none)
  ∧ (State.reset.aW = 0 ∧ State.reset.aH = 0 ∧ State.reset.bW = 0 ∧ State.reset.bH = 0
    ∧ State.reset.aMode = 0)
  ∧ (State.reset.oW = 0 ∧ State.reset.oH = 0 ∧ State.reset.oMode = 0)
  ∧ (State.reset.x = 0 ∧ State.reset.y = 0)
  ∧ (State.reset.boundX = 1 ∧ State.reset.boundY = 1) ∧ State.reset.opr = .merge
  ∧ ∀ id x y, State.reset.pixelAt id x y = Config.unwrittenPixel 0 id x y

/-- 70_reset_and_hazards.md section 1 (log 8): a reset outside BUSY puts every register at its
reset value and leaves every cell of the three memories a draw not used before; the events to come go on. -/
def Obligations.ResetOutsideARun : Prop :=
  ∀ (s : State) (rest : List HostEvent), GoodState s → s.status ≠ .busy →
    s.pending = .reset :: rest →
    ∃ n t, step s = .next t ∧ s.ga.epoch < n ∧ s.gb.epoch < n ∧ s.go.epoch < n
      ∧ t = { State.reset with params := s.params, pending := rest, draws := n,
                               ga := ⟨n, []⟩, gb := ⟨n, []⟩, go := ⟨n, []⟩ }
      ∧ ∀ id x y, t.pixelAt id x y = Config.unwrittenPixel n id x y

/-- 70_reset_and_hazards.md section 1 (the reading of log 8): a reset in BUSY abandons the run: the
registers take their reset values, GA and GB survive, every cell of GO is a draw not used before. -/
def Obligations.ResetAbandonsARun : Prop :=
  ∀ (s : State) (rest : List HostEvent), GoodState s → s.status = .busy →
    s.pending = .reset :: rest →
    ∃ n t, step s = .next t ∧ s.go.epoch < n
      ∧ t = { State.reset with params := s.params, pending := rest, draws := n,
                               ga := s.ga, gb := s.gb, go := ⟨n, []⟩ }
      ∧ (∀ x y, t.pixelAt .ga x y = s.pixelAt .ga x y ∧ t.pixelAt .gb x y = s.pixelAt .gb x y)
      ∧ ∀ x y, t.pixelAt .go x y = Config.unwrittenPixel n .go x y

/-! ### The whole machine -/

/-- Every step keeps the invariant: register widths, canonical memories, ERR = 1 exactly in ERROR,
a run in progress inside a legal geometry, a returned grid never empty. -/
def Obligations.EveryStepKeepsTheInvariant : Prop :=
  ∀ s t : State, GoodState s → step s = .next t → GoodState t

/-- The invariant holds after reset. -/
def Obligations.ResetMeetsTheInvariant : Prop := GoodState State.reset

/-- From a good state no step faults, and a step whose host keeps its duties is never refused: the
machine answers a next state. -/
def Obligations.GoodStatesStepOn : Prop :=
  ∀ s : State, GoodState s →
    (∀ f, step s ≠ .fault f) ∧ (hostKeepsDuties s → StepsOn (step s))

/-- 42_sequencer.md section 5 (derived): a run in progress ends: it is in BUSY for exactly the pixel
steps it has left and then in DONE. -/
def Obligations.RunsTerminate : Prop :=
  ∀ s : State, GoodState s → s.pending = [] → s.status = .busy →
    (∀ k, k < stepsLeft s → ∃ t, runSteps k s = .next t ∧ t.status = .busy)
    ∧ ∃ t, runSteps (stepsLeft s) s = .next t ∧ t.status = .done

/-- 42_sequencer.md R90: the k-th pixel step of a run is at (k div A_H, k mod A_H). -/
def Obligations.ScanOrder : Prop :=
  ∀ s : State, GoodState s → s.pending = [] → s.status = .busy → s.x = 0 → s.y = 0 →
    ∀ k, k < s.aW * s.aH → ∃ t, runSteps k s = .next t ∧ t.status = .busy
      ∧ t.x = k / s.aH ∧ t.y = k % s.aH

/-- 43_merge.md section 3 (derived): the result of a MERGE run, from the host's CTRL write to DONE. -/
def Obligations.MergeRunResult : Prop :=
  ∀ s : State, GoodState s → s.pending = [.bus (.wr 0 1)] → s.status ≠ .busy →
    legalGeometry .merge s = true →
    ((s.aW < s.bW ∨ s.aH < s.bH) → ∃ t, runSteps 1 s = .next t ∧ t.status = .error
      ∧ t.err = .sizeError)
    ∧ (s.bW ≤ s.aW → s.bH ≤ s.aH → ∃ t, runSteps (1 + s.aW * s.aH) s = .next t
      ∧ t.status = .done ∧ t.err = .none
      ∧ t.oW = s.aW ∧ t.oH = s.aH ∧ t.oMode = s.aMode
      ∧ (∀ x y, x < s.aW → y < s.aH →
          t.pixelAt .go x y = stegoPixel (s.pixelAt .ga x y) (payloadAt s x y))
      ∧ (∀ x y, ¬ (x < s.aW ∧ y < s.aH) → t.pixelAt .go x y = s.pixelAt .go x y)
      ∧ t.ga = s.ga ∧ t.gb = s.gb
      ∧ t.aW = s.aW ∧ t.aH = s.aH ∧ t.aMode = s.aMode ∧ t.bW = s.bW ∧ t.bH = s.bH)

/-- 44_unmerge.md section 2 (derived): the result of an UNMERGE run, from the host's CTRL write to
DONE, with the closed form of the bound. -/
def Obligations.UnmergeRunResult : Prop :=
  ∀ s : State, GoodState s → s.pending = [.bus (.wr 0 3)] → s.status ≠ .busy →
    legalGeometry .unmerge s = true →
    ∃ t, runSteps (1 + s.aW * s.aH) s = .next t
      ∧ t.status = .done ∧ t.err = .none ∧ t.oMode = s.aMode
      ∧ IsCropBound (litAt s) s.aW s.aH t.oW t.oH
      ∧ (∀ x y, x < t.oW → y < t.oH → t.pixelAt .go x y = recoveredPixel (s.pixelAt .ga x y))
      ∧ t.ga = s.ga ∧ t.gb = s.gb
      ∧ t.aW = s.aW ∧ t.aH = s.aH ∧ t.aMode = s.aMode ∧ t.bW = s.bW ∧ t.bH = s.bH

/-- 44_unmerge.md section 2 (derived): an image whose every low nibble is 0 comes back as the one
black pixel. -/
def Obligations.BlackImageCropsToOnePixel : Prop :=
  ∀ s : State, GoodState s → s.pending = [.bus (.wr 0 3)] → s.status ≠ .busy →
    legalGeometry .unmerge s = true → (∀ x y, x < s.aW → y < s.aH → ¬ litAt s x y) →
    ∃ t, runSteps (1 + s.aW * s.aH) s = .next t ∧ t.status = .done ∧ t.oW = 1 ∧ t.oH = 1
      ∧ t.pixelAt .go 0 0 = ⟨0, 0, 0⟩

/-- 30_encoding.md section 6: COPYOUT in DONE: the window of GO becomes the window of GA, the output
descriptor the A descriptor; GB, GO and every other register of the core stay. -/
def Obligations.CopyOutCopiesTheResult : Prop :=
  ∀ s : State, GoodState s → s.status = .done →
    ∃ t, copyOut s = .next t
      ∧ t.aW = s.oW ∧ t.aH = s.oH ∧ t.aMode = s.oMode
      ∧ (∀ x y, x < s.oW → y < s.oH → t.pixelAt .ga x y = s.pixelAt .go x y)
      ∧ (∀ x y, ¬ (x < s.oW ∧ y < s.oH) → t.pixelAt .ga x y = s.pixelAt .ga x y)
      ∧ t = { s with ga := t.ga, aW := s.oW, aH := s.oH, aMode := s.oMode, reply := t.reply }

/-- 44_unmerge.md section 3 (derived): MERGE, COPYOUT, UNMERGE gives the payload back with every low
nibble cleared, cropped by the closed form of the bound, whatever the carrier's pixels. -/
def Obligations.RoundTrip : Prop :=
  ∀ s m c r : State, GoodState s → s.pending = [.bus (.wr 0 1)] → s.status ≠ .busy →
    legalGeometry .merge s = true → s.bW ≤ s.aW → s.bH ≤ s.aH →
    runSteps (1 + s.aW * s.aH) s = .next m → copyOut m = .next c →
    runSteps (1 + s.aW * s.aH) { c with pending := [.bus (.wr 0 3)] } = .next r →
      r.status = .done ∧ r.oMode = s.aMode
      ∧ IsCropBound (fun x y => (x < s.bW ∧ y < s.bH) ∧ (16 ≤ (s.pixelAt .gb x y).r.toNat
          ∨ 16 ≤ (s.pixelAt .gb x y).g.toNat ∨ 16 ≤ (s.pixelAt .gb x y).b.toNat))
          s.aW s.aH r.oW r.oH
      ∧ r.oW ≤ max s.bW 1 ∧ r.oH ≤ max s.bH 1
      ∧ (∀ x y, x < r.oW → y < r.oH → r.pixelAt .go x y = keptPixel (payloadAt s x y))

/-- 10_state.md R29: statelessness. Two quiet machines that hold the same operands, whatever earlier
runs left in them, give the same result: STATUS, ERR and, after DONE, the size, the mode and the
window of GO. -/
def Obligations.RunsAreStateless : Prop :=
  ∀ (w : Nat) (s s' t t' : State), (w = 1 ∨ w = 3) → GoodState s → GoodState s' →
    s.status ≠ .busy → s'.status ≠ .busy →
    s.pending = [.bus (.wr 0 w)] → s'.pending = [.bus (.wr 0 w)] →
    s.params = s'.params → s.aW = s'.aW → s.aH = s'.aH → s.aMode = s'.aMode →
    (w = 1 → s.bW = s'.bW ∧ s.bH = s'.bH) →
    (∀ x y, x < s.aW → y < s.aH → s.pixelAt .ga x y = s'.pixelAt .ga x y) →
    (w = 1 → ∀ x y, x < s.bW → y < s.bH → s.pixelAt .gb x y = s'.pixelAt .gb x y) →
    runSteps (1 + s.aW * s.aH) s = .next t → runSteps (1 + s.aW * s.aH) s' = .next t' →
      t.status = t'.status ∧ t.err = t'.err
      ∧ (t.status = .done → t.oW = t'.oW ∧ t.oH = t'.oH ∧ t.oMode = t'.oMode
          ∧ ∀ x y, x < t.oW → y < t.oH → t.pixelAt .go x y = t'.pixelAt .go x y)

/-! ### What the pixel steps write, and WAIT -/

/-- 43_merge.md R99, 44_unmerge.md R106: what the two pixel steps write at a coordinate that exists,
without the advance or the end of the run: one cell of GO, and in UNMERGE the bound, one past this
position when some lane of the recovered pixel is not black; nothing else. -/
def Obligations.PixelStepWrites : Prop :=
  ∀ s : State, s.params.legal = true → s.x < s.params.maxW → s.y < s.params.maxH →
    (∃ t, mergePixelStep s = .next t
      ∧ t.pixelAt .go s.x s.y = stegoPixel (s.pixelAt .ga s.x s.y) (payloadAt s s.x s.y)
      ∧ (∀ x y, ¬ (x = s.x ∧ y = s.y) → t.pixelAt .go x y = s.pixelAt .go x y)
      ∧ t = { s with go := t.go })
    ∧ ∃ t, unmergePixelStep s = .next t
      ∧ t.pixelAt .go s.x s.y = recoveredPixel (s.pixelAt .ga s.x s.y)
      ∧ (∀ x y, ¬ (x = s.x ∧ y = s.y) → t.pixelAt .go x y = s.pixelAt .go x y)
      ∧ (litAt s s.x s.y → t = { s with go := t.go, boundX := s.x + 1, boundY := s.y + 1 })
      ∧ (¬ litAt s s.x s.y → t = { s with go := t.go })

/-- 30_encoding.md section 6, 42_sequencer.md section 5: WAIT from a good state ends outside BUSY,
whatever numbers of turns the core takes between the polls, with the last value read as its reply:
outside BUSY at the first poll, in BUSY once the pixel steps left are done and STATUS reads 2. That no
other event happens meanwhile, and that past the numbers given the core takes one turn between two
polls, is the model's choice (log 20). -/
def Obligations.WaitEndsOutsideBusy : Prop :=
  ∀ (gaps : List Nat) (s : State), GoodState s →
    (s.status ≠ .busy →
      wait gaps s = .next { s with reply := .register (statusValue s.status) })
    ∧ (s.status = .busy → ∃ t, coreTurns (stepsLeft s) s = .next t ∧ t.status = .done
        ∧ wait gaps s = .next { t with reply := .register 2 })
end

