-- ==== Sys2Proof/Laws/Bound.lean ====
section
/-! SUPPORT. The closed form of the crop bound (44_unmerge.md R110): the corner it names exists, it
determines the bound, and it depends on the coordinates of the grid alone. -/

namespace Sys2Proof.Safety

/-- A bounded set of numbers that is not empty has a largest member. -/
theorem exists_largest (p : Nat → Prop) (w a : Nat) (ha : a < w) (h : p a) :
    ∃ m, m < w ∧ p m ∧ ∀ x, x < w → p x → x ≤ m := by
  classical
  induction w with
  | zero => omega
  | succ w ih =>
    by_cases hw : p w
    · exact ⟨w, by omega, hw, fun x hx _ => by omega⟩
    · have : a < w := by
        rcases Nat.lt_or_eq_of_le (Nat.lt_succ_iff.mp ha) with h1 | rfl
        · exact h1
        · exact absurd h hw
      obtain ⟨m, hm, hpm, hmax⟩ := ih this
      refine ⟨m, by omega, hpm, fun x hx hpx => ?_⟩
      rcases Nat.lt_or_eq_of_le (Nat.lt_succ_iff.mp hx) with h1 | rfl
      · exact hmax x h1 hpx
      · exact absurd hpx hw

/-- A grid with a non-black pixel has the corner that 44_unmerge.md R110 names. -/
theorem cropCorner_exists (nb : Nat → Nat → Prop) (w h a b : Nat) (ha : a < w) (hb : b < h)
    (hn : nb a b) : ∃ xs ys, xs < w ∧ ys < h ∧ nb xs ys
      ∧ (∀ x y, x < w → y < h → nb x y → x ≤ xs) ∧ ∀ y, y < h → nb xs y → y ≤ ys := by
  obtain ⟨xs, hxs, ⟨y₀, hy₀, hn₀⟩, hmax⟩ :=
    exists_largest (fun x => ∃ y, y < h ∧ nb x y) w a ha ⟨b, hb, hn⟩
  obtain ⟨ys, hys, hny, hmaxy⟩ := exists_largest (fun y => nb xs y) h y₀ hy₀ hn₀
  exact ⟨xs, ys, hxs, hys, hny, fun x y hx hy hxy => hmax x hx ⟨y, hy, hxy⟩, hmaxy⟩

/-- The closed form determines the bound. -/
theorem IsCropBound_unique (nb : Nat → Nat → Prop) (w h a b c d : Nat)
    (h₁ : IsCropBound nb w h a b) (h₂ : IsCropBound nb w h c d) : a = c ∧ b = d := by
  by_cases hno : ∀ x y, x < w → y < h → ¬ nb x y
  · have := h₁.1 hno
    have := h₂.1 hno
    omega
  · simp only [not_forall, not_not] at hno
    obtain ⟨x, y, hx, hy, hn⟩ := hno
    obtain ⟨xs, ys, hxs, hys, hn', hm, hm'⟩ := cropCorner_exists nb w h x y hx hy hn
    have := h₁.2 xs ys hxs hys hn' hm hm'
    have := h₂.2 xs ys hxs hys hn' hm hm'
    omega

/-- The closed form depends on the black test inside the grid alone. -/
theorem IsCropBound_congr (nb nb' : Nat → Nat → Prop) (w h a b : Nat)
    (he : ∀ x y, x < w → y < h → (nb x y ↔ nb' x y)) (hb : IsCropBound nb w h a b) :
    IsCropBound nb' w h a b := by
  refine ⟨fun hno => hb.1 fun x y hx hy => by rw [he x y hx hy]; exact hno x y hx hy,
    fun xs ys hxs hys hn hm hm' => ?_⟩
  exact hb.2 xs ys hxs hys ((he xs ys hxs hys).mpr hn)
    (fun x y hx hy hxy => hm x y hx hy ((he x y hx hy).mp hxy))
    fun y hy hxy => hm' y hy ((he xs y hxs hy).mp hxy)

end Sys2Proof.Safety
end

