-- ==== Sys2Proof/Laws/State.lean ====
section
/-! SUPPORT. One lemma per field per update of State, so that no later proof unfolds a record
update. The fields a composite update may change have lemmas of their own in Laws/Ops.lean and
Laws/Step.lean. -/

namespace Sys2Proof.Machine

/-! ### State.setPosition -/

@[simp] theorem State.setPosition_params (s : State) (a b : Nat) : (s.setPosition a b).params = s.params := rfl
@[simp] theorem State.setPosition_status (s : State) (a b : Nat) : (s.setPosition a b).status = s.status := rfl
@[simp] theorem State.setPosition_err (s : State) (a b : Nat) : (s.setPosition a b).err = s.err := rfl
@[simp] theorem State.setPosition_aW (s : State) (a b : Nat) : (s.setPosition a b).aW = s.aW := rfl
@[simp] theorem State.setPosition_aH (s : State) (a b : Nat) : (s.setPosition a b).aH = s.aH := rfl
@[simp] theorem State.setPosition_aMode (s : State) (a b : Nat) : (s.setPosition a b).aMode = s.aMode := rfl
@[simp] theorem State.setPosition_bW (s : State) (a b : Nat) : (s.setPosition a b).bW = s.bW := rfl
@[simp] theorem State.setPosition_bH (s : State) (a b : Nat) : (s.setPosition a b).bH = s.bH := rfl
@[simp] theorem State.setPosition_oW (s : State) (a b : Nat) : (s.setPosition a b).oW = s.oW := rfl
@[simp] theorem State.setPosition_oH (s : State) (a b : Nat) : (s.setPosition a b).oH = s.oH := rfl
@[simp] theorem State.setPosition_oMode (s : State) (a b : Nat) : (s.setPosition a b).oMode = s.oMode := rfl
@[simp] theorem State.setPosition_x (s : State) (a b : Nat) : (s.setPosition a b).x = a := rfl
@[simp] theorem State.setPosition_y (s : State) (a b : Nat) : (s.setPosition a b).y = b := rfl
@[simp] theorem State.setPosition_boundX (s : State) (a b : Nat) : (s.setPosition a b).boundX = s.boundX := rfl
@[simp] theorem State.setPosition_boundY (s : State) (a b : Nat) : (s.setPosition a b).boundY = s.boundY := rfl
@[simp] theorem State.setPosition_opr (s : State) (a b : Nat) : (s.setPosition a b).opr = s.opr := rfl
@[simp] theorem State.setPosition_ga (s : State) (a b : Nat) : (s.setPosition a b).ga = s.ga := rfl
@[simp] theorem State.setPosition_gb (s : State) (a b : Nat) : (s.setPosition a b).gb = s.gb := rfl
@[simp] theorem State.setPosition_go (s : State) (a b : Nat) : (s.setPosition a b).go = s.go := rfl
@[simp] theorem State.setPosition_result (s : State) (a b : Nat) : (s.setPosition a b).result = s.result := rfl
@[simp] theorem State.setPosition_pending (s : State) (a b : Nat) : (s.setPosition a b).pending = s.pending := rfl
@[simp] theorem State.setPosition_reply (s : State) (a b : Nat) : (s.setPosition a b).reply = s.reply := rfl
@[simp] theorem State.setPosition_draws (s : State) (a b : Nat) : (s.setPosition a b).draws = s.draws := rfl

/-! ### State.setBound -/

@[simp] theorem State.setBound_params (s : State) (a b : Nat) : (s.setBound a b).params = s.params := rfl
@[simp] theorem State.setBound_status (s : State) (a b : Nat) : (s.setBound a b).status = s.status := rfl
@[simp] theorem State.setBound_err (s : State) (a b : Nat) : (s.setBound a b).err = s.err := rfl
@[simp] theorem State.setBound_aW (s : State) (a b : Nat) : (s.setBound a b).aW = s.aW := rfl
@[simp] theorem State.setBound_aH (s : State) (a b : Nat) : (s.setBound a b).aH = s.aH := rfl
@[simp] theorem State.setBound_aMode (s : State) (a b : Nat) : (s.setBound a b).aMode = s.aMode := rfl
@[simp] theorem State.setBound_bW (s : State) (a b : Nat) : (s.setBound a b).bW = s.bW := rfl
@[simp] theorem State.setBound_bH (s : State) (a b : Nat) : (s.setBound a b).bH = s.bH := rfl
@[simp] theorem State.setBound_oW (s : State) (a b : Nat) : (s.setBound a b).oW = s.oW := rfl
@[simp] theorem State.setBound_oH (s : State) (a b : Nat) : (s.setBound a b).oH = s.oH := rfl
@[simp] theorem State.setBound_oMode (s : State) (a b : Nat) : (s.setBound a b).oMode = s.oMode := rfl
@[simp] theorem State.setBound_x (s : State) (a b : Nat) : (s.setBound a b).x = s.x := rfl
@[simp] theorem State.setBound_y (s : State) (a b : Nat) : (s.setBound a b).y = s.y := rfl
@[simp] theorem State.setBound_boundX (s : State) (a b : Nat) : (s.setBound a b).boundX = a := rfl
@[simp] theorem State.setBound_boundY (s : State) (a b : Nat) : (s.setBound a b).boundY = b := rfl
@[simp] theorem State.setBound_opr (s : State) (a b : Nat) : (s.setBound a b).opr = s.opr := rfl
@[simp] theorem State.setBound_ga (s : State) (a b : Nat) : (s.setBound a b).ga = s.ga := rfl
@[simp] theorem State.setBound_gb (s : State) (a b : Nat) : (s.setBound a b).gb = s.gb := rfl
@[simp] theorem State.setBound_go (s : State) (a b : Nat) : (s.setBound a b).go = s.go := rfl
@[simp] theorem State.setBound_result (s : State) (a b : Nat) : (s.setBound a b).result = s.result := rfl
@[simp] theorem State.setBound_pending (s : State) (a b : Nat) : (s.setBound a b).pending = s.pending := rfl
@[simp] theorem State.setBound_reply (s : State) (a b : Nat) : (s.setBound a b).reply = s.reply := rfl
@[simp] theorem State.setBound_draws (s : State) (a b : Nat) : (s.setBound a b).draws = s.draws := rfl

/-! ### State.setOutputSize -/

@[simp] theorem State.setOutputSize_params (s : State) (a b : Nat) : (s.setOutputSize a b).params = s.params := rfl
@[simp] theorem State.setOutputSize_status (s : State) (a b : Nat) : (s.setOutputSize a b).status = s.status := rfl
@[simp] theorem State.setOutputSize_err (s : State) (a b : Nat) : (s.setOutputSize a b).err = s.err := rfl
@[simp] theorem State.setOutputSize_aW (s : State) (a b : Nat) : (s.setOutputSize a b).aW = s.aW := rfl
@[simp] theorem State.setOutputSize_aH (s : State) (a b : Nat) : (s.setOutputSize a b).aH = s.aH := rfl
@[simp] theorem State.setOutputSize_aMode (s : State) (a b : Nat) : (s.setOutputSize a b).aMode = s.aMode := rfl
@[simp] theorem State.setOutputSize_bW (s : State) (a b : Nat) : (s.setOutputSize a b).bW = s.bW := rfl
@[simp] theorem State.setOutputSize_bH (s : State) (a b : Nat) : (s.setOutputSize a b).bH = s.bH := rfl
@[simp] theorem State.setOutputSize_oW (s : State) (a b : Nat) : (s.setOutputSize a b).oW = a := rfl
@[simp] theorem State.setOutputSize_oH (s : State) (a b : Nat) : (s.setOutputSize a b).oH = b := rfl
@[simp] theorem State.setOutputSize_oMode (s : State) (a b : Nat) : (s.setOutputSize a b).oMode = s.oMode := rfl
@[simp] theorem State.setOutputSize_x (s : State) (a b : Nat) : (s.setOutputSize a b).x = s.x := rfl
@[simp] theorem State.setOutputSize_y (s : State) (a b : Nat) : (s.setOutputSize a b).y = s.y := rfl
@[simp] theorem State.setOutputSize_boundX (s : State) (a b : Nat) : (s.setOutputSize a b).boundX = s.boundX := rfl
@[simp] theorem State.setOutputSize_boundY (s : State) (a b : Nat) : (s.setOutputSize a b).boundY = s.boundY := rfl
@[simp] theorem State.setOutputSize_opr (s : State) (a b : Nat) : (s.setOutputSize a b).opr = s.opr := rfl
@[simp] theorem State.setOutputSize_ga (s : State) (a b : Nat) : (s.setOutputSize a b).ga = s.ga := rfl
@[simp] theorem State.setOutputSize_gb (s : State) (a b : Nat) : (s.setOutputSize a b).gb = s.gb := rfl
@[simp] theorem State.setOutputSize_go (s : State) (a b : Nat) : (s.setOutputSize a b).go = s.go := rfl
@[simp] theorem State.setOutputSize_result (s : State) (a b : Nat) : (s.setOutputSize a b).result = s.result := rfl
@[simp] theorem State.setOutputSize_pending (s : State) (a b : Nat) : (s.setOutputSize a b).pending = s.pending := rfl
@[simp] theorem State.setOutputSize_reply (s : State) (a b : Nat) : (s.setOutputSize a b).reply = s.reply := rfl
@[simp] theorem State.setOutputSize_draws (s : State) (a b : Nat) : (s.setOutputSize a b).draws = s.draws := rfl

/-! ### State.setStatus -/

@[simp] theorem State.setStatus_params (s : State) (v : Status) : (s.setStatus v).params = s.params := rfl
@[simp] theorem State.setStatus_status (s : State) (v : Status) : (s.setStatus v).status = v := rfl
@[simp] theorem State.setStatus_err (s : State) (v : Status) : (s.setStatus v).err = s.err := rfl
@[simp] theorem State.setStatus_aW (s : State) (v : Status) : (s.setStatus v).aW = s.aW := rfl
@[simp] theorem State.setStatus_aH (s : State) (v : Status) : (s.setStatus v).aH = s.aH := rfl
@[simp] theorem State.setStatus_aMode (s : State) (v : Status) : (s.setStatus v).aMode = s.aMode := rfl
@[simp] theorem State.setStatus_bW (s : State) (v : Status) : (s.setStatus v).bW = s.bW := rfl
@[simp] theorem State.setStatus_bH (s : State) (v : Status) : (s.setStatus v).bH = s.bH := rfl
@[simp] theorem State.setStatus_oW (s : State) (v : Status) : (s.setStatus v).oW = s.oW := rfl
@[simp] theorem State.setStatus_oH (s : State) (v : Status) : (s.setStatus v).oH = s.oH := rfl
@[simp] theorem State.setStatus_oMode (s : State) (v : Status) : (s.setStatus v).oMode = s.oMode := rfl
@[simp] theorem State.setStatus_x (s : State) (v : Status) : (s.setStatus v).x = s.x := rfl
@[simp] theorem State.setStatus_y (s : State) (v : Status) : (s.setStatus v).y = s.y := rfl
@[simp] theorem State.setStatus_boundX (s : State) (v : Status) : (s.setStatus v).boundX = s.boundX := rfl
@[simp] theorem State.setStatus_boundY (s : State) (v : Status) : (s.setStatus v).boundY = s.boundY := rfl
@[simp] theorem State.setStatus_opr (s : State) (v : Status) : (s.setStatus v).opr = s.opr := rfl
@[simp] theorem State.setStatus_ga (s : State) (v : Status) : (s.setStatus v).ga = s.ga := rfl
@[simp] theorem State.setStatus_gb (s : State) (v : Status) : (s.setStatus v).gb = s.gb := rfl
@[simp] theorem State.setStatus_go (s : State) (v : Status) : (s.setStatus v).go = s.go := rfl
@[simp] theorem State.setStatus_result (s : State) (v : Status) : (s.setStatus v).result = s.result := rfl
@[simp] theorem State.setStatus_pending (s : State) (v : Status) : (s.setStatus v).pending = s.pending := rfl
@[simp] theorem State.setStatus_reply (s : State) (v : Status) : (s.setStatus v).reply = s.reply := rfl
@[simp] theorem State.setStatus_draws (s : State) (v : Status) : (s.setStatus v).draws = s.draws := rfl

/-! ### State.setOpr -/

@[simp] theorem State.setOpr_params (s : State) (v : Op) : (s.setOpr v).params = s.params := rfl
@[simp] theorem State.setOpr_status (s : State) (v : Op) : (s.setOpr v).status = s.status := rfl
@[simp] theorem State.setOpr_err (s : State) (v : Op) : (s.setOpr v).err = s.err := rfl
@[simp] theorem State.setOpr_aW (s : State) (v : Op) : (s.setOpr v).aW = s.aW := rfl
@[simp] theorem State.setOpr_aH (s : State) (v : Op) : (s.setOpr v).aH = s.aH := rfl
@[simp] theorem State.setOpr_aMode (s : State) (v : Op) : (s.setOpr v).aMode = s.aMode := rfl
@[simp] theorem State.setOpr_bW (s : State) (v : Op) : (s.setOpr v).bW = s.bW := rfl
@[simp] theorem State.setOpr_bH (s : State) (v : Op) : (s.setOpr v).bH = s.bH := rfl
@[simp] theorem State.setOpr_oW (s : State) (v : Op) : (s.setOpr v).oW = s.oW := rfl
@[simp] theorem State.setOpr_oH (s : State) (v : Op) : (s.setOpr v).oH = s.oH := rfl
@[simp] theorem State.setOpr_oMode (s : State) (v : Op) : (s.setOpr v).oMode = s.oMode := rfl
@[simp] theorem State.setOpr_x (s : State) (v : Op) : (s.setOpr v).x = s.x := rfl
@[simp] theorem State.setOpr_y (s : State) (v : Op) : (s.setOpr v).y = s.y := rfl
@[simp] theorem State.setOpr_boundX (s : State) (v : Op) : (s.setOpr v).boundX = s.boundX := rfl
@[simp] theorem State.setOpr_boundY (s : State) (v : Op) : (s.setOpr v).boundY = s.boundY := rfl
@[simp] theorem State.setOpr_opr (s : State) (v : Op) : (s.setOpr v).opr = v := rfl
@[simp] theorem State.setOpr_ga (s : State) (v : Op) : (s.setOpr v).ga = s.ga := rfl
@[simp] theorem State.setOpr_gb (s : State) (v : Op) : (s.setOpr v).gb = s.gb := rfl
@[simp] theorem State.setOpr_go (s : State) (v : Op) : (s.setOpr v).go = s.go := rfl
@[simp] theorem State.setOpr_result (s : State) (v : Op) : (s.setOpr v).result = s.result := rfl
@[simp] theorem State.setOpr_pending (s : State) (v : Op) : (s.setOpr v).pending = s.pending := rfl
@[simp] theorem State.setOpr_reply (s : State) (v : Op) : (s.setOpr v).reply = s.reply := rfl
@[simp] theorem State.setOpr_draws (s : State) (v : Op) : (s.setOpr v).draws = s.draws := rfl

/-! ### State.setResult -/

@[simp] theorem State.setResult_params (s : State) (v : OpResult) : (s.setResult v).params = s.params := rfl
@[simp] theorem State.setResult_status (s : State) (v : OpResult) : (s.setResult v).status = s.status := rfl
@[simp] theorem State.setResult_err (s : State) (v : OpResult) : (s.setResult v).err = s.err := rfl
@[simp] theorem State.setResult_aW (s : State) (v : OpResult) : (s.setResult v).aW = s.aW := rfl
@[simp] theorem State.setResult_aH (s : State) (v : OpResult) : (s.setResult v).aH = s.aH := rfl
@[simp] theorem State.setResult_aMode (s : State) (v : OpResult) : (s.setResult v).aMode = s.aMode := rfl
@[simp] theorem State.setResult_bW (s : State) (v : OpResult) : (s.setResult v).bW = s.bW := rfl
@[simp] theorem State.setResult_bH (s : State) (v : OpResult) : (s.setResult v).bH = s.bH := rfl
@[simp] theorem State.setResult_oW (s : State) (v : OpResult) : (s.setResult v).oW = s.oW := rfl
@[simp] theorem State.setResult_oH (s : State) (v : OpResult) : (s.setResult v).oH = s.oH := rfl
@[simp] theorem State.setResult_oMode (s : State) (v : OpResult) : (s.setResult v).oMode = s.oMode := rfl
@[simp] theorem State.setResult_x (s : State) (v : OpResult) : (s.setResult v).x = s.x := rfl
@[simp] theorem State.setResult_y (s : State) (v : OpResult) : (s.setResult v).y = s.y := rfl
@[simp] theorem State.setResult_boundX (s : State) (v : OpResult) : (s.setResult v).boundX = s.boundX := rfl
@[simp] theorem State.setResult_boundY (s : State) (v : OpResult) : (s.setResult v).boundY = s.boundY := rfl
@[simp] theorem State.setResult_opr (s : State) (v : OpResult) : (s.setResult v).opr = s.opr := rfl
@[simp] theorem State.setResult_ga (s : State) (v : OpResult) : (s.setResult v).ga = s.ga := rfl
@[simp] theorem State.setResult_gb (s : State) (v : OpResult) : (s.setResult v).gb = s.gb := rfl
@[simp] theorem State.setResult_go (s : State) (v : OpResult) : (s.setResult v).go = s.go := rfl
@[simp] theorem State.setResult_result (s : State) (v : OpResult) : (s.setResult v).result = v := rfl
@[simp] theorem State.setResult_pending (s : State) (v : OpResult) : (s.setResult v).pending = s.pending := rfl
@[simp] theorem State.setResult_reply (s : State) (v : OpResult) : (s.setResult v).reply = s.reply := rfl
@[simp] theorem State.setResult_draws (s : State) (v : OpResult) : (s.setResult v).draws = s.draws := rfl

/-! ### State.setReply -/

@[simp] theorem State.setReply_params (s : State) (v : HostReply) : (s.setReply v).params = s.params := rfl
@[simp] theorem State.setReply_status (s : State) (v : HostReply) : (s.setReply v).status = s.status := rfl
@[simp] theorem State.setReply_err (s : State) (v : HostReply) : (s.setReply v).err = s.err := rfl
@[simp] theorem State.setReply_aW (s : State) (v : HostReply) : (s.setReply v).aW = s.aW := rfl
@[simp] theorem State.setReply_aH (s : State) (v : HostReply) : (s.setReply v).aH = s.aH := rfl
@[simp] theorem State.setReply_aMode (s : State) (v : HostReply) : (s.setReply v).aMode = s.aMode := rfl
@[simp] theorem State.setReply_bW (s : State) (v : HostReply) : (s.setReply v).bW = s.bW := rfl
@[simp] theorem State.setReply_bH (s : State) (v : HostReply) : (s.setReply v).bH = s.bH := rfl
@[simp] theorem State.setReply_oW (s : State) (v : HostReply) : (s.setReply v).oW = s.oW := rfl
@[simp] theorem State.setReply_oH (s : State) (v : HostReply) : (s.setReply v).oH = s.oH := rfl
@[simp] theorem State.setReply_oMode (s : State) (v : HostReply) : (s.setReply v).oMode = s.oMode := rfl
@[simp] theorem State.setReply_x (s : State) (v : HostReply) : (s.setReply v).x = s.x := rfl
@[simp] theorem State.setReply_y (s : State) (v : HostReply) : (s.setReply v).y = s.y := rfl
@[simp] theorem State.setReply_boundX (s : State) (v : HostReply) : (s.setReply v).boundX = s.boundX := rfl
@[simp] theorem State.setReply_boundY (s : State) (v : HostReply) : (s.setReply v).boundY = s.boundY := rfl
@[simp] theorem State.setReply_opr (s : State) (v : HostReply) : (s.setReply v).opr = s.opr := rfl
@[simp] theorem State.setReply_ga (s : State) (v : HostReply) : (s.setReply v).ga = s.ga := rfl
@[simp] theorem State.setReply_gb (s : State) (v : HostReply) : (s.setReply v).gb = s.gb := rfl
@[simp] theorem State.setReply_go (s : State) (v : HostReply) : (s.setReply v).go = s.go := rfl
@[simp] theorem State.setReply_result (s : State) (v : HostReply) : (s.setReply v).result = s.result := rfl
@[simp] theorem State.setReply_pending (s : State) (v : HostReply) : (s.setReply v).pending = s.pending := rfl
@[simp] theorem State.setReply_reply (s : State) (v : HostReply) : (s.setReply v).reply = v := rfl
@[simp] theorem State.setReply_draws (s : State) (v : HostReply) : (s.setReply v).draws = s.draws := rfl

/-! ### State.useDraw -/

@[simp] theorem State.useDraw_params (s : State) : s.useDraw.params = s.params := rfl
@[simp] theorem State.useDraw_status (s : State) : s.useDraw.status = s.status := rfl
@[simp] theorem State.useDraw_err (s : State) : s.useDraw.err = s.err := rfl
@[simp] theorem State.useDraw_aW (s : State) : s.useDraw.aW = s.aW := rfl
@[simp] theorem State.useDraw_aH (s : State) : s.useDraw.aH = s.aH := rfl
@[simp] theorem State.useDraw_aMode (s : State) : s.useDraw.aMode = s.aMode := rfl
@[simp] theorem State.useDraw_bW (s : State) : s.useDraw.bW = s.bW := rfl
@[simp] theorem State.useDraw_bH (s : State) : s.useDraw.bH = s.bH := rfl
@[simp] theorem State.useDraw_oW (s : State) : s.useDraw.oW = s.oW := rfl
@[simp] theorem State.useDraw_oH (s : State) : s.useDraw.oH = s.oH := rfl
@[simp] theorem State.useDraw_oMode (s : State) : s.useDraw.oMode = s.oMode := rfl
@[simp] theorem State.useDraw_x (s : State) : s.useDraw.x = s.x := rfl
@[simp] theorem State.useDraw_y (s : State) : s.useDraw.y = s.y := rfl
@[simp] theorem State.useDraw_boundX (s : State) : s.useDraw.boundX = s.boundX := rfl
@[simp] theorem State.useDraw_boundY (s : State) : s.useDraw.boundY = s.boundY := rfl
@[simp] theorem State.useDraw_opr (s : State) : s.useDraw.opr = s.opr := rfl
@[simp] theorem State.useDraw_ga (s : State) : s.useDraw.ga = s.ga := rfl
@[simp] theorem State.useDraw_gb (s : State) : s.useDraw.gb = s.gb := rfl
@[simp] theorem State.useDraw_go (s : State) : s.useDraw.go = s.go := rfl
@[simp] theorem State.useDraw_result (s : State) : s.useDraw.result = s.result := rfl
@[simp] theorem State.useDraw_pending (s : State) : s.useDraw.pending = s.pending := rfl
@[simp] theorem State.useDraw_reply (s : State) : s.useDraw.reply = s.reply := rfl
@[simp] theorem State.useDraw_draws (s : State) : s.useDraw.draws = s.draws + 1 := rfl

/-! ### State.allocateOutput -/

@[simp] theorem State.allocateOutput_params (s : State) : s.allocateOutput.params = s.params := rfl
@[simp] theorem State.allocateOutput_status (s : State) : s.allocateOutput.status = s.status := rfl
@[simp] theorem State.allocateOutput_err (s : State) : s.allocateOutput.err = s.err := rfl
@[simp] theorem State.allocateOutput_aW (s : State) : s.allocateOutput.aW = s.aW := rfl
@[simp] theorem State.allocateOutput_aH (s : State) : s.allocateOutput.aH = s.aH := rfl
@[simp] theorem State.allocateOutput_aMode (s : State) : s.allocateOutput.aMode = s.aMode := rfl
@[simp] theorem State.allocateOutput_bW (s : State) : s.allocateOutput.bW = s.bW := rfl
@[simp] theorem State.allocateOutput_bH (s : State) : s.allocateOutput.bH = s.bH := rfl
@[simp] theorem State.allocateOutput_oW (s : State) : s.allocateOutput.oW = s.aW := rfl
@[simp] theorem State.allocateOutput_oH (s : State) : s.allocateOutput.oH = s.aH := rfl
@[simp] theorem State.allocateOutput_oMode (s : State) : s.allocateOutput.oMode = s.aMode := rfl
@[simp] theorem State.allocateOutput_x (s : State) : s.allocateOutput.x = s.x := rfl
@[simp] theorem State.allocateOutput_y (s : State) : s.allocateOutput.y = s.y := rfl
@[simp] theorem State.allocateOutput_boundX (s : State) : s.allocateOutput.boundX = s.boundX := rfl
@[simp] theorem State.allocateOutput_boundY (s : State) : s.allocateOutput.boundY = s.boundY := rfl
@[simp] theorem State.allocateOutput_opr (s : State) : s.allocateOutput.opr = s.opr := rfl
@[simp] theorem State.allocateOutput_ga (s : State) : s.allocateOutput.ga = s.ga := rfl
@[simp] theorem State.allocateOutput_gb (s : State) : s.allocateOutput.gb = s.gb := rfl
@[simp] theorem State.allocateOutput_go (s : State) : s.allocateOutput.go = s.go := rfl
@[simp] theorem State.allocateOutput_result (s : State) : s.allocateOutput.result = s.result := rfl
@[simp] theorem State.allocateOutput_pending (s : State) : s.allocateOutput.pending = s.pending := rfl
@[simp] theorem State.allocateOutput_reply (s : State) : s.allocateOutput.reply = s.reply := rfl
@[simp] theorem State.allocateOutput_draws (s : State) : s.allocateOutput.draws = s.draws := rfl

/-! ### raiseSizeError -/

@[simp] theorem raiseSizeError_params (s : State) : (raiseSizeError s).params = s.params := rfl
@[simp] theorem raiseSizeError_status (s : State) : (raiseSizeError s).status = .error := rfl
@[simp] theorem raiseSizeError_err (s : State) : (raiseSizeError s).err = .sizeError := rfl
@[simp] theorem raiseSizeError_aW (s : State) : (raiseSizeError s).aW = s.aW := rfl
@[simp] theorem raiseSizeError_aH (s : State) : (raiseSizeError s).aH = s.aH := rfl
@[simp] theorem raiseSizeError_aMode (s : State) : (raiseSizeError s).aMode = s.aMode := rfl
@[simp] theorem raiseSizeError_bW (s : State) : (raiseSizeError s).bW = s.bW := rfl
@[simp] theorem raiseSizeError_bH (s : State) : (raiseSizeError s).bH = s.bH := rfl
@[simp] theorem raiseSizeError_oW (s : State) : (raiseSizeError s).oW = s.oW := rfl
@[simp] theorem raiseSizeError_oH (s : State) : (raiseSizeError s).oH = s.oH := rfl
@[simp] theorem raiseSizeError_oMode (s : State) : (raiseSizeError s).oMode = s.oMode := rfl
@[simp] theorem raiseSizeError_x (s : State) : (raiseSizeError s).x = s.x := rfl
@[simp] theorem raiseSizeError_y (s : State) : (raiseSizeError s).y = s.y := rfl
@[simp] theorem raiseSizeError_boundX (s : State) : (raiseSizeError s).boundX = s.boundX := rfl
@[simp] theorem raiseSizeError_boundY (s : State) : (raiseSizeError s).boundY = s.boundY := rfl
@[simp] theorem raiseSizeError_opr (s : State) : (raiseSizeError s).opr = s.opr := rfl
@[simp] theorem raiseSizeError_ga (s : State) : (raiseSizeError s).ga = s.ga := rfl
@[simp] theorem raiseSizeError_gb (s : State) : (raiseSizeError s).gb = s.gb := rfl
@[simp] theorem raiseSizeError_go (s : State) : (raiseSizeError s).go = s.go := rfl
@[simp] theorem raiseSizeError_result (s : State) : (raiseSizeError s).result = s.result := rfl
@[simp] theorem raiseSizeError_pending (s : State) : (raiseSizeError s).pending = s.pending := rfl
@[simp] theorem raiseSizeError_reply (s : State) : (raiseSizeError s).reply = s.reply := rfl
@[simp] theorem raiseSizeError_draws (s : State) : (raiseSizeError s).draws = s.draws := rfl

/-! ### beginRun -/

@[simp] theorem beginRun_params (s : State) : (beginRun s).params = s.params := rfl
@[simp] theorem beginRun_status (s : State) : (beginRun s).status = .busy := rfl
@[simp] theorem beginRun_err (s : State) : (beginRun s).err = .none := rfl
@[simp] theorem beginRun_aW (s : State) : (beginRun s).aW = s.aW := rfl
@[simp] theorem beginRun_aH (s : State) : (beginRun s).aH = s.aH := rfl
@[simp] theorem beginRun_aMode (s : State) : (beginRun s).aMode = s.aMode := rfl
@[simp] theorem beginRun_bW (s : State) : (beginRun s).bW = s.bW := rfl
@[simp] theorem beginRun_bH (s : State) : (beginRun s).bH = s.bH := rfl
@[simp] theorem beginRun_oW (s : State) : (beginRun s).oW = s.aW := rfl
@[simp] theorem beginRun_oH (s : State) : (beginRun s).oH = s.aH := rfl
@[simp] theorem beginRun_oMode (s : State) : (beginRun s).oMode = s.aMode := rfl
@[simp] theorem beginRun_x (s : State) : (beginRun s).x = 0 := rfl
@[simp] theorem beginRun_y (s : State) : (beginRun s).y = 0 := rfl
@[simp] theorem beginRun_boundX (s : State) : (beginRun s).boundX = s.boundX := rfl
@[simp] theorem beginRun_boundY (s : State) : (beginRun s).boundY = s.boundY := rfl
@[simp] theorem beginRun_opr (s : State) : (beginRun s).opr = s.opr := rfl
@[simp] theorem beginRun_ga (s : State) : (beginRun s).ga = s.ga := rfl
@[simp] theorem beginRun_gb (s : State) : (beginRun s).gb = s.gb := rfl
@[simp] theorem beginRun_go (s : State) : (beginRun s).go = s.go := rfl
@[simp] theorem beginRun_result (s : State) : (beginRun s).result = s.result := rfl
@[simp] theorem beginRun_pending (s : State) : (beginRun s).pending = s.pending := rfl
@[simp] theorem beginRun_reply (s : State) : (beginRun s).reply = s.reply := rfl
@[simp] theorem beginRun_draws (s : State) : (beginRun s).draws = s.draws := rfl

/-! ### cropOutput -/

@[simp] theorem cropOutput_params (s : State) : (cropOutput s).params = s.params := rfl
@[simp] theorem cropOutput_status (s : State) : (cropOutput s).status = s.status := rfl
@[simp] theorem cropOutput_err (s : State) : (cropOutput s).err = s.err := rfl
@[simp] theorem cropOutput_aW (s : State) : (cropOutput s).aW = s.aW := rfl
@[simp] theorem cropOutput_aH (s : State) : (cropOutput s).aH = s.aH := rfl
@[simp] theorem cropOutput_aMode (s : State) : (cropOutput s).aMode = s.aMode := rfl
@[simp] theorem cropOutput_bW (s : State) : (cropOutput s).bW = s.bW := rfl
@[simp] theorem cropOutput_bH (s : State) : (cropOutput s).bH = s.bH := rfl
@[simp] theorem cropOutput_oW (s : State) : (cropOutput s).oW = s.boundX := rfl
@[simp] theorem cropOutput_oH (s : State) : (cropOutput s).oH = s.boundY := rfl
@[simp] theorem cropOutput_oMode (s : State) : (cropOutput s).oMode = s.oMode := rfl
@[simp] theorem cropOutput_x (s : State) : (cropOutput s).x = s.x := rfl
@[simp] theorem cropOutput_y (s : State) : (cropOutput s).y = s.y := rfl
@[simp] theorem cropOutput_boundX (s : State) : (cropOutput s).boundX = s.boundX := rfl
@[simp] theorem cropOutput_boundY (s : State) : (cropOutput s).boundY = s.boundY := rfl
@[simp] theorem cropOutput_opr (s : State) : (cropOutput s).opr = s.opr := rfl
@[simp] theorem cropOutput_ga (s : State) : (cropOutput s).ga = s.ga := rfl
@[simp] theorem cropOutput_gb (s : State) : (cropOutput s).gb = s.gb := rfl
@[simp] theorem cropOutput_go (s : State) : (cropOutput s).go = s.go := rfl
@[simp] theorem cropOutput_result (s : State) : (cropOutput s).result = s.result := rfl
@[simp] theorem cropOutput_pending (s : State) : (cropOutput s).pending = s.pending := rfl
@[simp] theorem cropOutput_reply (s : State) : (cropOutput s).reply = s.reply := rfl
@[simp] theorem cropOutput_draws (s : State) : (cropOutput s).draws = s.draws := rfl

/-! ### boundUpdate -/

@[simp] theorem boundUpdate_params (s : State) : (boundUpdate s).params = s.params := rfl
@[simp] theorem boundUpdate_status (s : State) : (boundUpdate s).status = s.status := rfl
@[simp] theorem boundUpdate_err (s : State) : (boundUpdate s).err = s.err := rfl
@[simp] theorem boundUpdate_aW (s : State) : (boundUpdate s).aW = s.aW := rfl
@[simp] theorem boundUpdate_aH (s : State) : (boundUpdate s).aH = s.aH := rfl
@[simp] theorem boundUpdate_aMode (s : State) : (boundUpdate s).aMode = s.aMode := rfl
@[simp] theorem boundUpdate_bW (s : State) : (boundUpdate s).bW = s.bW := rfl
@[simp] theorem boundUpdate_bH (s : State) : (boundUpdate s).bH = s.bH := rfl
@[simp] theorem boundUpdate_oW (s : State) : (boundUpdate s).oW = s.oW := rfl
@[simp] theorem boundUpdate_oH (s : State) : (boundUpdate s).oH = s.oH := rfl
@[simp] theorem boundUpdate_oMode (s : State) : (boundUpdate s).oMode = s.oMode := rfl
@[simp] theorem boundUpdate_x (s : State) : (boundUpdate s).x = s.x := rfl
@[simp] theorem boundUpdate_y (s : State) : (boundUpdate s).y = s.y := rfl
@[simp] theorem boundUpdate_boundX (s : State) : (boundUpdate s).boundX = s.narrow (s.x + 1) := rfl
@[simp] theorem boundUpdate_boundY (s : State) : (boundUpdate s).boundY = s.narrow (s.y + 1) := rfl
@[simp] theorem boundUpdate_opr (s : State) : (boundUpdate s).opr = s.opr := rfl
@[simp] theorem boundUpdate_ga (s : State) : (boundUpdate s).ga = s.ga := rfl
@[simp] theorem boundUpdate_gb (s : State) : (boundUpdate s).gb = s.gb := rfl
@[simp] theorem boundUpdate_go (s : State) : (boundUpdate s).go = s.go := rfl
@[simp] theorem boundUpdate_result (s : State) : (boundUpdate s).result = s.result := rfl
@[simp] theorem boundUpdate_pending (s : State) : (boundUpdate s).pending = s.pending := rfl
@[simp] theorem boundUpdate_reply (s : State) : (boundUpdate s).reply = s.reply := rfl
@[simp] theorem boundUpdate_draws (s : State) : (boundUpdate s).draws = s.draws := rfl

/-! ### State.setMemory -/

@[simp] theorem State.setMemory_params (s : State) (id : GridId) (m : Memory) : (s.setMemory id m).params = s.params := by cases id <;> rfl
@[simp] theorem State.setMemory_status (s : State) (id : GridId) (m : Memory) : (s.setMemory id m).status = s.status := by cases id <;> rfl
@[simp] theorem State.setMemory_err (s : State) (id : GridId) (m : Memory) : (s.setMemory id m).err = s.err := by cases id <;> rfl
@[simp] theorem State.setMemory_aW (s : State) (id : GridId) (m : Memory) : (s.setMemory id m).aW = s.aW := by cases id <;> rfl
@[simp] theorem State.setMemory_aH (s : State) (id : GridId) (m : Memory) : (s.setMemory id m).aH = s.aH := by cases id <;> rfl
@[simp] theorem State.setMemory_aMode (s : State) (id : GridId) (m : Memory) : (s.setMemory id m).aMode = s.aMode := by cases id <;> rfl
@[simp] theorem State.setMemory_bW (s : State) (id : GridId) (m : Memory) : (s.setMemory id m).bW = s.bW := by cases id <;> rfl
@[simp] theorem State.setMemory_bH (s : State) (id : GridId) (m : Memory) : (s.setMemory id m).bH = s.bH := by cases id <;> rfl
@[simp] theorem State.setMemory_oW (s : State) (id : GridId) (m : Memory) : (s.setMemory id m).oW = s.oW := by cases id <;> rfl
@[simp] theorem State.setMemory_oH (s : State) (id : GridId) (m : Memory) : (s.setMemory id m).oH = s.oH := by cases id <;> rfl
@[simp] theorem State.setMemory_oMode (s : State) (id : GridId) (m : Memory) : (s.setMemory id m).oMode = s.oMode := by cases id <;> rfl
@[simp] theorem State.setMemory_x (s : State) (id : GridId) (m : Memory) : (s.setMemory id m).x = s.x := by cases id <;> rfl
@[simp] theorem State.setMemory_y (s : State) (id : GridId) (m : Memory) : (s.setMemory id m).y = s.y := by cases id <;> rfl
@[simp] theorem State.setMemory_boundX (s : State) (id : GridId) (m : Memory) : (s.setMemory id m).boundX = s.boundX := by cases id <;> rfl
@[simp] theorem State.setMemory_boundY (s : State) (id : GridId) (m : Memory) : (s.setMemory id m).boundY = s.boundY := by cases id <;> rfl
@[simp] theorem State.setMemory_opr (s : State) (id : GridId) (m : Memory) : (s.setMemory id m).opr = s.opr := by cases id <;> rfl
@[simp] theorem State.setMemory_result (s : State) (id : GridId) (m : Memory) : (s.setMemory id m).result = s.result := by cases id <;> rfl
@[simp] theorem State.setMemory_pending (s : State) (id : GridId) (m : Memory) : (s.setMemory id m).pending = s.pending := by cases id <;> rfl
@[simp] theorem State.setMemory_reply (s : State) (id : GridId) (m : Memory) : (s.setMemory id m).reply = s.reply := by cases id <;> rfl
@[simp] theorem State.setMemory_draws (s : State) (id : GridId) (m : Memory) : (s.setMemory id m).draws = s.draws := by cases id <;> rfl

/-! ### State.setPixel -/

@[simp] theorem State.setPixel_params (s : State) (id : GridId) (a b : Nat) (p : Pixel) : (s.setPixel id a b p).params = s.params := by cases id <;> rfl
@[simp] theorem State.setPixel_status (s : State) (id : GridId) (a b : Nat) (p : Pixel) : (s.setPixel id a b p).status = s.status := by cases id <;> rfl
@[simp] theorem State.setPixel_err (s : State) (id : GridId) (a b : Nat) (p : Pixel) : (s.setPixel id a b p).err = s.err := by cases id <;> rfl
@[simp] theorem State.setPixel_aW (s : State) (id : GridId) (a b : Nat) (p : Pixel) : (s.setPixel id a b p).aW = s.aW := by cases id <;> rfl
@[simp] theorem State.setPixel_aH (s : State) (id : GridId) (a b : Nat) (p : Pixel) : (s.setPixel id a b p).aH = s.aH := by cases id <;> rfl
@[simp] theorem State.setPixel_aMode (s : State) (id : GridId) (a b : Nat) (p : Pixel) : (s.setPixel id a b p).aMode = s.aMode := by cases id <;> rfl
@[simp] theorem State.setPixel_bW (s : State) (id : GridId) (a b : Nat) (p : Pixel) : (s.setPixel id a b p).bW = s.bW := by cases id <;> rfl
@[simp] theorem State.setPixel_bH (s : State) (id : GridId) (a b : Nat) (p : Pixel) : (s.setPixel id a b p).bH = s.bH := by cases id <;> rfl
@[simp] theorem State.setPixel_oW (s : State) (id : GridId) (a b : Nat) (p : Pixel) : (s.setPixel id a b p).oW = s.oW := by cases id <;> rfl
@[simp] theorem State.setPixel_oH (s : State) (id : GridId) (a b : Nat) (p : Pixel) : (s.setPixel id a b p).oH = s.oH := by cases id <;> rfl
@[simp] theorem State.setPixel_oMode (s : State) (id : GridId) (a b : Nat) (p : Pixel) : (s.setPixel id a b p).oMode = s.oMode := by cases id <;> rfl
@[simp] theorem State.setPixel_x (s : State) (id : GridId) (a b : Nat) (p : Pixel) : (s.setPixel id a b p).x = s.x := by cases id <;> rfl
@[simp] theorem State.setPixel_y (s : State) (id : GridId) (a b : Nat) (p : Pixel) : (s.setPixel id a b p).y = s.y := by cases id <;> rfl
@[simp] theorem State.setPixel_boundX (s : State) (id : GridId) (a b : Nat) (p : Pixel) : (s.setPixel id a b p).boundX = s.boundX := by cases id <;> rfl
@[simp] theorem State.setPixel_boundY (s : State) (id : GridId) (a b : Nat) (p : Pixel) : (s.setPixel id a b p).boundY = s.boundY := by cases id <;> rfl
@[simp] theorem State.setPixel_opr (s : State) (id : GridId) (a b : Nat) (p : Pixel) : (s.setPixel id a b p).opr = s.opr := by cases id <;> rfl
@[simp] theorem State.setPixel_result (s : State) (id : GridId) (a b : Nat) (p : Pixel) : (s.setPixel id a b p).result = s.result := by cases id <;> rfl
@[simp] theorem State.setPixel_pending (s : State) (id : GridId) (a b : Nat) (p : Pixel) : (s.setPixel id a b p).pending = s.pending := by cases id <;> rfl
@[simp] theorem State.setPixel_reply (s : State) (id : GridId) (a b : Nat) (p : Pixel) : (s.setPixel id a b p).reply = s.reply := by cases id <;> rfl
@[simp] theorem State.setPixel_draws (s : State) (id : GridId) (a b : Nat) (p : Pixel) : (s.setPixel id a b p).draws = s.draws := by cases id <;> rfl

/-! ### scanAdvance -/

@[simp] theorem scanAdvance_params (s : State) : (scanAdvance s).params = s.params := by unfold scanAdvance; split <;> (try split) <;> rfl
@[simp] theorem scanAdvance_status (s : State) : (scanAdvance s).status = s.status := by unfold scanAdvance; split <;> (try split) <;> rfl
@[simp] theorem scanAdvance_err (s : State) : (scanAdvance s).err = s.err := by unfold scanAdvance; split <;> (try split) <;> rfl
@[simp] theorem scanAdvance_aW (s : State) : (scanAdvance s).aW = s.aW := by unfold scanAdvance; split <;> (try split) <;> rfl
@[simp] theorem scanAdvance_aH (s : State) : (scanAdvance s).aH = s.aH := by unfold scanAdvance; split <;> (try split) <;> rfl
@[simp] theorem scanAdvance_aMode (s : State) : (scanAdvance s).aMode = s.aMode := by unfold scanAdvance; split <;> (try split) <;> rfl
@[simp] theorem scanAdvance_bW (s : State) : (scanAdvance s).bW = s.bW := by unfold scanAdvance; split <;> (try split) <;> rfl
@[simp] theorem scanAdvance_bH (s : State) : (scanAdvance s).bH = s.bH := by unfold scanAdvance; split <;> (try split) <;> rfl
@[simp] theorem scanAdvance_oW (s : State) : (scanAdvance s).oW = s.oW := by unfold scanAdvance; split <;> (try split) <;> rfl
@[simp] theorem scanAdvance_oH (s : State) : (scanAdvance s).oH = s.oH := by unfold scanAdvance; split <;> (try split) <;> rfl
@[simp] theorem scanAdvance_oMode (s : State) : (scanAdvance s).oMode = s.oMode := by unfold scanAdvance; split <;> (try split) <;> rfl
@[simp] theorem scanAdvance_boundX (s : State) : (scanAdvance s).boundX = s.boundX := by unfold scanAdvance; split <;> (try split) <;> rfl
@[simp] theorem scanAdvance_boundY (s : State) : (scanAdvance s).boundY = s.boundY := by unfold scanAdvance; split <;> (try split) <;> rfl
@[simp] theorem scanAdvance_opr (s : State) : (scanAdvance s).opr = s.opr := by unfold scanAdvance; split <;> (try split) <;> rfl
@[simp] theorem scanAdvance_ga (s : State) : (scanAdvance s).ga = s.ga := by unfold scanAdvance; split <;> (try split) <;> rfl
@[simp] theorem scanAdvance_gb (s : State) : (scanAdvance s).gb = s.gb := by unfold scanAdvance; split <;> (try split) <;> rfl
@[simp] theorem scanAdvance_go (s : State) : (scanAdvance s).go = s.go := by unfold scanAdvance; split <;> (try split) <;> rfl
@[simp] theorem scanAdvance_result (s : State) : (scanAdvance s).result = s.result := by unfold scanAdvance; split <;> (try split) <;> rfl
@[simp] theorem scanAdvance_pending (s : State) : (scanAdvance s).pending = s.pending := by unfold scanAdvance; split <;> (try split) <;> rfl
@[simp] theorem scanAdvance_reply (s : State) : (scanAdvance s).reply = s.reply := by unfold scanAdvance; split <;> (try split) <;> rfl
@[simp] theorem scanAdvance_draws (s : State) : (scanAdvance s).draws = s.draws := by unfold scanAdvance; split <;> (try split) <;> rfl

/-! ### checkSize -/

@[simp] theorem checkSize_params (s : State) : (checkSize s).params = s.params := by unfold checkSize; split <;> rfl
@[simp] theorem checkSize_aW (s : State) : (checkSize s).aW = s.aW := by unfold checkSize; split <;> rfl
@[simp] theorem checkSize_aH (s : State) : (checkSize s).aH = s.aH := by unfold checkSize; split <;> rfl
@[simp] theorem checkSize_aMode (s : State) : (checkSize s).aMode = s.aMode := by unfold checkSize; split <;> rfl
@[simp] theorem checkSize_bW (s : State) : (checkSize s).bW = s.bW := by unfold checkSize; split <;> rfl
@[simp] theorem checkSize_bH (s : State) : (checkSize s).bH = s.bH := by unfold checkSize; split <;> rfl
@[simp] theorem checkSize_oW (s : State) : (checkSize s).oW = s.oW := by unfold checkSize; split <;> rfl
@[simp] theorem checkSize_oH (s : State) : (checkSize s).oH = s.oH := by unfold checkSize; split <;> rfl
@[simp] theorem checkSize_oMode (s : State) : (checkSize s).oMode = s.oMode := by unfold checkSize; split <;> rfl
@[simp] theorem checkSize_x (s : State) : (checkSize s).x = s.x := by unfold checkSize; split <;> rfl
@[simp] theorem checkSize_y (s : State) : (checkSize s).y = s.y := by unfold checkSize; split <;> rfl
@[simp] theorem checkSize_boundX (s : State) : (checkSize s).boundX = s.boundX := by unfold checkSize; split <;> rfl
@[simp] theorem checkSize_boundY (s : State) : (checkSize s).boundY = s.boundY := by unfold checkSize; split <;> rfl
@[simp] theorem checkSize_opr (s : State) : (checkSize s).opr = s.opr := by unfold checkSize; split <;> rfl
@[simp] theorem checkSize_ga (s : State) : (checkSize s).ga = s.ga := by unfold checkSize; split <;> rfl
@[simp] theorem checkSize_gb (s : State) : (checkSize s).gb = s.gb := by unfold checkSize; split <;> rfl
@[simp] theorem checkSize_go (s : State) : (checkSize s).go = s.go := by unfold checkSize; split <;> rfl
@[simp] theorem checkSize_result (s : State) : (checkSize s).result = s.result := by unfold checkSize; split <;> rfl
@[simp] theorem checkSize_pending (s : State) : (checkSize s).pending = s.pending := by unfold checkSize; split <;> rfl
@[simp] theorem checkSize_reply (s : State) : (checkSize s).reply = s.reply := by unfold checkSize; split <;> rfl
@[simp] theorem checkSize_draws (s : State) : (checkSize s).draws = s.draws := by unfold checkSize; split <;> rfl

/-! ### trackBound -/

@[simp] theorem trackBound_params (q : Pixel) (s : State) : (trackBound q s).params = s.params := by unfold trackBound; split <;> rfl
@[simp] theorem trackBound_status (q : Pixel) (s : State) : (trackBound q s).status = s.status := by unfold trackBound; split <;> rfl
@[simp] theorem trackBound_err (q : Pixel) (s : State) : (trackBound q s).err = s.err := by unfold trackBound; split <;> rfl
@[simp] theorem trackBound_aW (q : Pixel) (s : State) : (trackBound q s).aW = s.aW := by unfold trackBound; split <;> rfl
@[simp] theorem trackBound_aH (q : Pixel) (s : State) : (trackBound q s).aH = s.aH := by unfold trackBound; split <;> rfl
@[simp] theorem trackBound_aMode (q : Pixel) (s : State) : (trackBound q s).aMode = s.aMode := by unfold trackBound; split <;> rfl
@[simp] theorem trackBound_bW (q : Pixel) (s : State) : (trackBound q s).bW = s.bW := by unfold trackBound; split <;> rfl
@[simp] theorem trackBound_bH (q : Pixel) (s : State) : (trackBound q s).bH = s.bH := by unfold trackBound; split <;> rfl
@[simp] theorem trackBound_oW (q : Pixel) (s : State) : (trackBound q s).oW = s.oW := by unfold trackBound; split <;> rfl
@[simp] theorem trackBound_oH (q : Pixel) (s : State) : (trackBound q s).oH = s.oH := by unfold trackBound; split <;> rfl
@[simp] theorem trackBound_oMode (q : Pixel) (s : State) : (trackBound q s).oMode = s.oMode := by unfold trackBound; split <;> rfl
@[simp] theorem trackBound_x (q : Pixel) (s : State) : (trackBound q s).x = s.x := by unfold trackBound; split <;> rfl
@[simp] theorem trackBound_y (q : Pixel) (s : State) : (trackBound q s).y = s.y := by unfold trackBound; split <;> rfl
@[simp] theorem trackBound_opr (q : Pixel) (s : State) : (trackBound q s).opr = s.opr := by unfold trackBound; split <;> rfl
@[simp] theorem trackBound_ga (q : Pixel) (s : State) : (trackBound q s).ga = s.ga := by unfold trackBound; split <;> rfl
@[simp] theorem trackBound_gb (q : Pixel) (s : State) : (trackBound q s).gb = s.gb := by unfold trackBound; split <;> rfl
@[simp] theorem trackBound_go (q : Pixel) (s : State) : (trackBound q s).go = s.go := by unfold trackBound; split <;> rfl
@[simp] theorem trackBound_result (q : Pixel) (s : State) : (trackBound q s).result = s.result := by unfold trackBound; split <;> rfl
@[simp] theorem trackBound_pending (q : Pixel) (s : State) : (trackBound q s).pending = s.pending := by unfold trackBound; split <;> rfl
@[simp] theorem trackBound_reply (q : Pixel) (s : State) : (trackBound q s).reply = s.reply := by unfold trackBound; split <;> rfl
@[simp] theorem trackBound_draws (q : Pixel) (s : State) : (trackBound q s).draws = s.draws := by unfold trackBound; split <;> rfl

/-! ### finishRun -/

@[simp] theorem finishRun_params (s : State) : (finishRun s).params = s.params := by unfold finishRun; split <;> rfl
@[simp] theorem finishRun_err (s : State) : (finishRun s).err = s.err := by unfold finishRun; split <;> rfl
@[simp] theorem finishRun_aW (s : State) : (finishRun s).aW = s.aW := by unfold finishRun; split <;> rfl
@[simp] theorem finishRun_aH (s : State) : (finishRun s).aH = s.aH := by unfold finishRun; split <;> rfl
@[simp] theorem finishRun_aMode (s : State) : (finishRun s).aMode = s.aMode := by unfold finishRun; split <;> rfl
@[simp] theorem finishRun_bW (s : State) : (finishRun s).bW = s.bW := by unfold finishRun; split <;> rfl
@[simp] theorem finishRun_bH (s : State) : (finishRun s).bH = s.bH := by unfold finishRun; split <;> rfl
@[simp] theorem finishRun_oMode (s : State) : (finishRun s).oMode = s.oMode := by unfold finishRun; split <;> rfl
@[simp] theorem finishRun_x (s : State) : (finishRun s).x = s.x := by unfold finishRun; split <;> rfl
@[simp] theorem finishRun_y (s : State) : (finishRun s).y = s.y := by unfold finishRun; split <;> rfl
@[simp] theorem finishRun_boundX (s : State) : (finishRun s).boundX = s.boundX := by unfold finishRun; split <;> rfl
@[simp] theorem finishRun_boundY (s : State) : (finishRun s).boundY = s.boundY := by unfold finishRun; split <;> rfl
@[simp] theorem finishRun_opr (s : State) : (finishRun s).opr = s.opr := by unfold finishRun; split <;> rfl
@[simp] theorem finishRun_ga (s : State) : (finishRun s).ga = s.ga := by unfold finishRun; split <;> rfl
@[simp] theorem finishRun_gb (s : State) : (finishRun s).gb = s.gb := by unfold finishRun; split <;> rfl
@[simp] theorem finishRun_go (s : State) : (finishRun s).go = s.go := by unfold finishRun; split <;> rfl
@[simp] theorem finishRun_result (s : State) : (finishRun s).result = s.result := by unfold finishRun; split <;> rfl
@[simp] theorem finishRun_pending (s : State) : (finishRun s).pending = s.pending := by unfold finishRun; split <;> rfl
@[simp] theorem finishRun_reply (s : State) : (finishRun s).reply = s.reply := by unfold finishRun; split <;> rfl
@[simp] theorem finishRun_draws (s : State) : (finishRun s).draws = s.draws := by unfold finishRun; split <;> rfl

end Sys2Proof.Machine
end

