-- ==== Sys2Proof/Laws/Memory.lean ====
section
/-! SUPPORT. The grid memories: a read after a write (20_memory.md R36, R37), the frame of a write,
and the canonical form, which every memory operation keeps. -/

namespace Sys2Proof.Machine

theorem before_iff (a b c d : Nat) : before a b c d = true ↔ a < c ∨ (a = c ∧ b < d) := by
  simp [before]

theorem lookupCell_storeCell_same (cs : List PixelCell) (x y : Nat) (p : Pixel) :
    lookupCell (storeCell cs x y p) x y = some p := by
  induction cs with
  | nil => simp [storeCell, lookupCell]
  | cons c cs ih =>
    simp only [storeCell]
    split
    · simp [lookupCell]
    · split
      · simp [lookupCell]
      · simp [lookupCell, *]

theorem lookupCell_storeCell_other (cs : List PixelCell) (x y a b : Nat) (p : Pixel)
    (h : ¬ (a = x ∧ b = y)) : lookupCell (storeCell cs x y p) a b = lookupCell cs a b := by
  have h' : ¬ (x = a ∧ y = b) := fun e => h ⟨e.1.symm, e.2.symm⟩
  induction cs with
  | nil => simp [storeCell, lookupCell, h']
  | cons c cs ih =>
    simp only [storeCell]
    split
    · rename_i hc
      have hc' : ¬ (c.x = a ∧ c.y = b) := by rw [hc.1, hc.2]; exact h'
      simp [lookupCell, h', hc']
    · split
      · simp [lookupCell, h']
      · simp [lookupCell, ih]

/-- A rising list: its tail rises, and its head comes before the next cell. -/
theorem cellsRising_cons (c : PixelCell) (cs : List PixelCell) :
    cellsRising (c :: cs) = true ↔
      (∀ d ∈ cs.head?, before c.x c.y d.x d.y = true) ∧ cellsRising cs = true := by
  cases cs with
  | nil => simp [cellsRising]
  | cons d ds => simp [cellsRising]

/-- The first cell of a list after a store: the stored one, or the old first one where it comes
before. -/
theorem storeCell_head (cs : List PixelCell) (x y : Nat) (p : Pixel) (d : PixelCell)
    (h : d ∈ (storeCell cs x y p).head?) : (d.x = x ∧ d.y = y) ∨ d ∈ cs.head? := by
  cases cs with
  | nil => simp [storeCell] at h; subst h; simp
  | cons c cs =>
    simp only [storeCell] at h
    split at h
    · simp at h; subst h; simp
    · split at h
      · simp at h; subst h; simp
      · simp at h; subst h; simp

theorem storeCell_rising (cs : List PixelCell) (x y : Nat) (p : Pixel)
    (h : cellsRising cs = true) : cellsRising (storeCell cs x y p) = true := by
  induction cs with
  | nil => simp [storeCell, cellsRising]
  | cons c cs ih =>
    have hc := (cellsRising_cons c cs).mp h
    simp only [storeCell]
    split
    · rename_i e
      rw [cellsRising_cons]
      exact ⟨by simpa [e.1, e.2] using hc.1, hc.2⟩
    · split
      · rename_i hb
        rw [cellsRising_cons]
        exact ⟨by simpa using hb, h⟩
      · rename_i he hb
        rw [cellsRising_cons]
        refine ⟨fun d hd => ?_, ih hc.2⟩
        rcases storeCell_head cs x y p d hd with hd | hd
        · rw [hd.1, hd.2, before_iff]
          rw [before_iff] at hb
          omega
        · exact hc.1 d hd

theorem storeCell_all (cs : List PixelCell) (x y : Nat) (p : Pixel) (f : PixelCell → Bool)
    (h : cs.all f = true) (hf : f ⟨x, y, p⟩ = true) : (storeCell cs x y p).all f = true := by
  induction cs with
  | nil => simp [storeCell, hf]
  | cons c cs ih =>
    simp only [List.all_cons, Bool.and_eq_true] at h
    simp only [storeCell]
    split
    · simp [hf, h.2]
    · split
      · simp [hf, h.1, h.2]
      · simp [h.1, ih h.2]

theorem Memory.write_wf (m : Memory) (x y : Nat) (p : Pixel) (h : m.wf = true) :
    (m.write x y p).wf = true := storeCell_rising _ _ _ _ h

theorem Memory.write_within (q : Params) (m : Memory) (x y : Nat) (p : Pixel)
    (h : m.within q = true) (hr : q.inRange x y = true) : (m.write x y p).within q = true :=
  storeCell_all _ _ _ _ _ h hr

@[simp] theorem Memory.write_epoch (m : Memory) (x y : Nat) (p : Pixel) :
    (m.write x y p).epoch = m.epoch := rfl

/-- A read after a write to the same cell gives the pixel written (20_memory.md R36, R37). -/
@[simp] theorem Memory.read_write_same (id : GridId) (m : Memory) (x y : Nat) (p : Pixel) :
    (m.write x y p).read id x y = p := by
  simp [Memory.read, Memory.write, lookupCell_storeCell_same]

/-- A write leaves every other cell alone (20_memory.md R37). -/
theorem Memory.read_write_other (id : GridId) (m : Memory) (x y a b : Nat) (p : Pixel)
    (h : ¬ (a = x ∧ b = y)) : (m.write x y p).read id a b = m.read id a b := by
  simp [Memory.read, Memory.write, lookupCell_storeCell_other _ _ _ _ _ _ h, unwrittenCell]

theorem Memory.read_write (id : GridId) (m : Memory) (x y a b : Nat) (p : Pixel) :
    (m.write x y p).read id a b = if a = x ∧ b = y then p else m.read id a b := by
  split
  · rename_i h; rw [h.1, h.2]; simp
  · rename_i h; exact Memory.read_write_other _ _ _ _ _ _ _ h

@[simp] theorem State.setMemory_memory_same (s : State) (id : GridId) (m : Memory) :
    (s.setMemory id m).memory id = m := by cases id <;> rfl

theorem State.setMemory_memory_other (s : State) (id id' : GridId) (m : Memory) (h : id' ≠ id) :
    (s.setMemory id m).memory id' = s.memory id' := by
  cases id <;> cases id' <;> first | rfl | exact absurd rfl h

/-- The pixel of a memory after a pixel write: the one written at its own cell, else as before
(20_memory.md R36, R37). -/
theorem State.pixelAt_setPixel (s : State) (id id' : GridId) (x y a b : Nat) (p : Pixel) :
    (s.setPixel id x y p).pixelAt id' a b =
      if id' = id ∧ a = x ∧ b = y then p else s.pixelAt id' a b := by
  by_cases h : id' = id
  · subst h
    simp [State.pixelAt, State.setPixel, Memory.read_write]
  · simp [State.pixelAt, State.setPixel, State.setMemory_memory_other _ _ _ _ h, h]

@[simp] theorem State.setPixel_go_ga (s : State) (a b : Nat) (p : Pixel) :
    (s.setPixel .go a b p).ga = s.ga := rfl

@[simp] theorem State.setPixel_go_gb (s : State) (a b : Nat) (p : Pixel) :
    (s.setPixel .go a b p).gb = s.gb := rfl

@[simp] theorem State.setPixel_go_go (s : State) (a b : Nat) (p : Pixel) :
    (s.setPixel .go a b p).go = s.go.write a b p := rfl

/-- The pixel a memory holds depends on the memory alone. -/
theorem State.pixelAt_congr (s t : State) (id : GridId) (x y : Nat)
    (h : s.memory id = t.memory id) : s.pixelAt id x y = t.pixelAt id x y := by
  simp [State.pixelAt, h]

/-- A coordinate that comes before every cell of a rising list is not in it. -/
theorem lookupCell_eq_none_of_before (cs : List PixelCell) (x y : Nat)
    (h : ∀ d ∈ cs.head?, before x y d.x d.y = true) (hr : cellsRising cs = true) :
    lookupCell cs x y = none := by
  induction cs with
  | nil => rfl
  | cons c cs ih =>
    have hc := (cellsRising_cons c cs).mp hr
    have hb : before x y c.x c.y = true := h c (by simp)
    have hne : ¬ (c.x = x ∧ c.y = y) := by
      rw [before_iff] at hb; omega
    simp only [lookupCell, hne, if_false]
    refine ih (fun d hd => ?_) hc.2
    have := hc.1 d hd
    rw [before_iff] at *
    omega

/-- Two rising lists that answer every lookup alike are the same list, so equal memories are equal
data. -/
theorem cells_ext (cs ds : List PixelCell) (hc : cellsRising cs = true)
    (hd : cellsRising ds = true) (h : ∀ x y, lookupCell cs x y = lookupCell ds x y) : cs = ds := by
  induction cs generalizing ds with
  | nil =>
    cases ds with
    | nil => rfl
    | cons d ds => have := h d.x d.y; simp [lookupCell] at this
  | cons c cs ih =>
    cases ds with
    | nil => have := h c.x c.y; simp [lookupCell] at this
    | cons d ds =>
      have hc' := (cellsRising_cons c cs).mp hc
      have hd' := (cellsRising_cons d ds).mp hd
      have same : c.x = d.x ∧ c.y = d.y := by
        by_contra hne
        by_cases hb : before c.x c.y d.x d.y = true
        · have h1 := lookupCell_eq_none_of_before (d :: ds) c.x c.y (by simpa using hb) hd
          have h2 := h c.x c.y
          rw [h1] at h2
          simp [lookupCell] at h2
        · have hb' : before d.x d.y c.x c.y = true := by rw [before_iff] at *; omega
          have h1 := lookupCell_eq_none_of_before (c :: cs) d.x d.y (by simpa using hb') hc
          have h2 := h d.x d.y
          rw [h1] at h2
          simp [lookupCell] at h2
      have pix : c.pix = d.pix := by
        have := h c.x c.y
        simpa [lookupCell, same.1, same.2] using this
      have head : c = d := by cases c; cases d; simp_all
      subst head
      congr 1
      refine ih ds hc'.2 hd'.2 fun x y => ?_
      by_cases e : c.x = x ∧ c.y = y
      · rw [← e.1, ← e.2, lookupCell_eq_none_of_before cs _ _ hc'.1 hc'.2,
          lookupCell_eq_none_of_before ds _ _ hd'.1 hd'.2]
      · have := h x y
        simpa [lookupCell, e] using this

/-- Two memories of one reset in canonical form with the same written cells are equal data. -/
theorem Memory.ext_of_lookup (m n : Memory) (hm : m.wf = true) (hn : n.wf = true)
    (he : m.epoch = n.epoch) (h : ∀ x y, lookupCell m.cells x y = lookupCell n.cells x y) :
    m = n := by
  cases m; cases n
  simp only [Memory.mk.injEq]
  exact ⟨he, cells_ext _ _ hm hn h⟩

end Sys2Proof.Machine
end

