-- ==== Sys2Proof/Laws/Channel.lean ====
section
/-! SUPPORT. The channel datapath and the pixel operations in the spec's arithmetic
(40_channel_datapath.md R72 to R78, 41_pixel_ops.md R81 to R84). -/

namespace Sys2Proof.Machine

open Sys2Proof.Safety

theorem highNibble_toNat (v : Byte) : (highNibble v).toNat = v.toNat / 16 := by
  have := v.isLt
  simp only [highNibble, BitVec.extractLsb'_toNat, Nat.shiftRight_eq_div_pow]
  omega

theorem lowNibble_toNat (v : Byte) : (lowNibble v).toNat = v.toNat % 16 := by
  simp [lowNibble]

theorem packNibbles_toNat (hn ln : Nibble) : (packNibbles hn ln).toNat = 16 * hn.toNat + ln.toNat := by
  have := ln.isLt
  rw [packNibbles, BitVec.toNat_append, Nat.shiftLeft_eq, Nat.mul_comm]
  exact (Nat.two_pow_add_eq_or_of_lt (by simpa using ln.isLt) hn.toNat).symm

theorem expandNibble_toNat (n : Nibble) : (expandNibble n).toNat = 16 * n.toNat := by
  simp [expandNibble, packNibbles_toNat]

@[simp] theorem highNibble_packNibbles (a b : Nibble) : highNibble (packNibbles a b) = a := by
  apply BitVec.eq_of_toNat_eq
  have := b.isLt
  rw [highNibble_toNat, packNibbles_toNat]
  omega

@[simp] theorem lowNibble_packNibbles (a b : Nibble) : lowNibble (packNibbles a b) = b := by
  apply BitVec.eq_of_toNat_eq
  have := b.isLt
  rw [lowNibble_toNat, packNibbles_toNat]
  omega

@[simp] theorem packNibbles_high_low (v : Byte) :
    packNibbles (highNibble v) (lowNibble v) = v := by
  apply BitVec.eq_of_toNat_eq
  rw [packNibbles_toNat, highNibble_toNat, lowNibble_toNat]
  omega

theorem byte_and_high (c : Byte) : (c &&& 0xF0#8).toNat = 16 * (c.toNat / 16) := by
  revert c; decide

theorem byte_and_low (c : Byte) : (c &&& 0x0F#8).toNat = c.toNat % 16 := by
  revert c; decide

theorem stegoLane_toNat (c p : Byte) :
    (stegoLane c p).toNat = 16 * (c.toNat / 16) + p.toNat / 16 := by
  have h : p.toNat / 16 < 2 ^ 4 := by have := p.isLt; omega
  rw [stegoLane, BitVec.toNat_or, byte_and_high, BitVec.toNat_ushiftRight,
    Nat.shiftRight_eq_div_pow]
  exact (Nat.two_pow_add_eq_or_of_lt h (c.toNat / 16)).symm

theorem recoveredLane_toNat (v : Byte) : (recoveredLane v).toNat = 16 * (v.toNat % 16) := by
  revert v; decide

/-- MERGE_CH in the mask and shift form (R76). -/
theorem mergeChannel_eq (c p : Byte) : mergeChannel c p = stegoLane c p := by
  apply BitVec.eq_of_toNat_eq
  rw [mergeChannel, packNibbles_toNat, highNibble_toNat, highNibble_toNat, stegoLane_toNat]

/-- UNMERGE_CH in the mask and shift form (R77). -/
theorem unmergeChannel_eq (v : Byte) : unmergeChannel v = recoveredLane v := by
  apply BitVec.eq_of_toNat_eq
  rw [unmergeChannel, expandNibble_toNat, lowNibble_toNat, recoveredLane_toNat]

/-- The channel round trip (R78). -/
theorem recoveredLane_stegoLane (c p : Byte) : recoveredLane (stegoLane c p) = keptLane p := by
  apply BitVec.eq_of_toNat_eq
  have := p.isLt
  rw [recoveredLane_toNat, stegoLane_toNat, keptLane, byte_and_high]
  omega

theorem mergePixels_eq (c p : Pixel) : mergePixels c p = stegoPixel c p := by
  simp [mergePixels, stegoPixel, mergeChannel_eq]

theorem unmergePixel_eq (q : Pixel) : unmergePixel q = recoveredPixel q := by
  simp [unmergePixel, recoveredPixel, unmergeChannel_eq]

theorem recoveredLane_eq_zero (v : Byte) : recoveredLane v = 0 ↔ v &&& 0x0F#8 = 0 := by
  revert v; decide

theorem isNonblack_iff (q : Pixel) : isNonblack q = true ↔ q.r ≠ 0 ∨ q.g ≠ 0 ∨ q.b ≠ 0 := by
  simp [isNonblack, or_assoc]

/-- The black test of a reconstructed pixel in terms of the input pixel (R83). -/
theorem isNonblack_unmergePixel (s : State) (x y : Nat) :
    isNonblack (unmergePixel (s.pixelAt .ga x y)) = true ↔ litAt s x y := by
  simp only [isNonblack_iff, unmergePixel, unmergeChannel_eq, ne_eq, recoveredLane_eq_zero, litAt]

/-- The pixel word as a number (30_encoding.md R60). -/
theorem wordOfPixel_toNat (p : Pixel) :
    (wordOfPixel p).toNat = p.r.toNat * 65536 + p.g.toNat * 256 + p.b.toNat := by
  have h1 : (p.r ++ p.g).toNat = p.r.toNat * 256 + p.g.toNat := by
    rw [BitVec.toNat_append, Nat.shiftLeft_eq, Nat.mul_comm]
    rw [← Nat.two_pow_add_eq_or_of_lt (by simpa using p.g.isLt) p.r.toNat]
  rw [wordOfPixel, BitVec.toNat_append, h1, Nat.shiftLeft_eq, Nat.mul_comm,
    ← Nat.two_pow_add_eq_or_of_lt (by simpa using p.b.isLt) _]
  omega

@[simp] theorem pixelOfWord_wordOfPixel (p : Pixel) : pixelOfWord (wordOfPixel p) = p := by
  have hr := p.r.isLt
  have hg := p.g.isLt
  have hb := p.b.isLt
  have hw := wordOfPixel_toNat p
  cases p
  simp only [pixelOfWord, Pixel.mk.injEq]
  refine ⟨?_, ?_, ?_⟩ <;>
    · apply BitVec.eq_of_toNat_eq
      simp only [BitVec.extractLsb'_toNat, Nat.shiftRight_eq_div_pow, hw]
      simp only at *
      omega

@[simp] theorem wordOfPixel_pixelOfWord (w : PixelWord) : wordOfPixel (pixelOfWord w) = w := by
  simp only [pixelOfWord, wordOfPixel]
  ext i hi
  simp only [BitVec.getElem_append, BitVec.getElem_extractLsb']
  split
  · simp [BitVec.getLsbD_eq_getElem hi]
  · split
    · rw [show 8 + (i - 8) = i by omega, BitVec.getLsbD_eq_getElem hi]
    · rw [show 16 + (i - 8 - 8) = i by omega, BitVec.getLsbD_eq_getElem hi]

end Sys2Proof.Machine
end

