-- ==== Sys2Proof/Laws/Encoding.lean ====
section
/-! SUPPORT. The decoder on numbers and bytes. -/

namespace Sys2Proof

/-- A number is a command exactly when it is below 4 (30_encoding.md R57, R58). -/
theorem decodeValue_ok (v : Nat) (i : Instr) :
    decodeValue v = .ok i ↔ v < 4 ∧ decodeCommand (BitVec.ofNat 2 v) = i := by
  unfold decodeValue
  split <;> simp [*]

/-- The bytes of a number give it back as far as they reach. -/
theorem bytesToNat_natToBytes (k v : Nat) : bytesToNat (natToBytes k v) = v % 256 ^ k := by
  induction k generalizing v with
  | zero => simp [natToBytes, bytesToNat, Nat.mod_one]
  | succ k ih =>
    have e : (BitVec.ofNat 8 v).toNat = v % 256 := BitVec.toNat_ofNat v 8
    rw [natToBytes, bytesToNat, ih, e, pow_succ', Nat.mod_mul]

/-- Decoding the bytes of a number that fits them is decoding the number. -/
theorem decodeBytes_natToBytes (k v : Nat) (h : v < 256 ^ (k + 1)) :
    decodeBytes (natToBytes (k + 1) v) = decodeValue v := by
  have e := bytesToNat_natToBytes (k + 1) v
  rw [Nat.mod_eq_of_lt h, natToBytes] at e
  rw [natToBytes, decodeBytes, e]

end Sys2Proof
end

