-- ==== Sys2Proof/Laws/Ops.lean ====
section
/-! SUPPORT. What each shared operation can do, said once: sequencing, the core's accesses, the
commands, the pixel steps and the core's step. Later proofs cite these and do not unfold. -/

namespace Sys2Proof.Machine

open Sys2Proof.Safety

/-! ### Sequencing -/

@[simp] theorem andThen_next (s : State) (k : State → Outcome) : andThen (.next s) k = k s := rfl

theorem andThen_eq_next (o : Outcome) (k : State → Outcome) (t : State) :
    andThen o k = .next t ↔ ∃ s, o = .next s ∧ k s = .next t := by
  cases o <;> simp [andThen]

/-! ### The core's accesses -/

theorem inRange_iff (p : Params) (x y : Nat) : p.inRange x y = true ↔ x < p.maxW ∧ y < p.maxH := by
  simp [Params.inRange]

theorem params_legal_iff (p : Params) : p.legal = true ↔
    1 ≤ p.dimW ∧ (1 ≤ p.maxW ∧ p.maxW ≤ 2 ^ p.dimW - 1) ∧ 1 ≤ p.maxH ∧ p.maxH ≤ 2 ^ p.dimW - 1 := by
  simp only [Params.legal, Bool.and_eq_true, decide_eq_true_eq]
  tauto

theorem legalGeometry_iff (op : Op) (s : State) : legalGeometry op s = true ↔
    (1 ≤ s.aW ∧ s.aW ≤ s.params.maxW) ∧ (1 ≤ s.aH ∧ s.aH ≤ s.params.maxH)
    ∧ (op = .unmerge ∨ (s.bW ≤ s.params.maxW ∧ s.bH ≤ s.params.maxH)) := by
  simp only [legalGeometry, Bool.and_eq_true, Bool.or_eq_true, decide_eq_true_eq]
  tauto

theorem sizeOk_iff (s : State) : sizeOk s = true ↔ s.bW ≤ s.aW ∧ s.bH ≤ s.aH := by
  simp [sizeOk]

theorem lastRow_iff (s : State) : lastRow s = true ↔ s.y + 1 = s.aH := by simp [lastRow]

theorem isLast_iff (s : State) : isLast s = true ↔ s.x + 1 = s.aW ∧ s.y + 1 = s.aH := by
  simp [isLast, lastRow]

theorem memRead_of_inRange (s : State) (id : GridId) (x y : Nat) (k : Pixel → Outcome)
    (h : s.params.inRange x y = true) : memRead s id x y k = k (s.pixelAt id x y) := by
  simp [memRead, h]

theorem memWrite_of_inRange (s : State) (id : GridId) (x y : Nat) (p : Pixel)
    (h : s.params.inRange x y = true) : memWrite s id x y p = .next (s.setPixel id x y p) := by
  simp [memWrite, h]

/-- The payload operand: the payload pixel, or black outside the payload (R80). -/
theorem readPayloadPixel_of_inRange (s : State) (k : Pixel → Outcome)
    (h : s.params.inRange s.x s.y = true) : readPayloadPixel s k = k (payloadAt s s.x s.y) := by
  unfold readPayloadPixel payloadAt
  by_cases hp : s.x < s.bW ∧ s.y < s.bH
  · simp [inPayload, hp.1, hp.2, memRead_of_inRange _ _ _ _ _ h]
  · have : inPayload s s.x s.y = false := by
      simp only [inPayload, Bool.and_eq_false_iff, decide_eq_false_iff_not]; omega
    simp [this, hp, Pixel.black]

/-! ### The commands -/

/-- Everything a START can do (R87, R88, R89). -/
theorem startCommand_cases (op : Op) (s t : State) (h : startCommand op s = .next t) :
    (s.status = .busy ∧ t = s)
    ∨ (s.status ≠ .busy ∧ legalGeometry op s = true ∧ t = startStep op (s.setOpr op)) := by
  unfold startCommand at h
  split at h
  · exact .inl ⟨‹_›, by simpa using h.symm⟩
  · split at h
    · exact .inr ⟨‹_›, ‹_›, by simpa using h.symm⟩
    · cases h

theorem startCommand_accepted (op : Op) (s : State) (hs : s.status ≠ .busy)
    (hg : legalGeometry op s = true) :
    startCommand op s = .next (startStep op (s.setOpr op)) := by
  simp [startCommand, hs, hg]

theorem startCommand_busy (op : Op) (s : State) (hs : s.status = .busy) :
    startCommand op s = .next s := by
  simp [startCommand, hs]

theorem mergeStart_fits (s : State) (h : sizeOk s = true) : mergeStart s = beginRun s := by
  simp [mergeStart, h]

theorem mergeStart_tooLarge (s : State) (h : sizeOk s = false) :
    mergeStart s = raiseSizeError s := by
  simp [mergeStart, h]

/-! ### The pixel steps -/

/-- The MERGE pixel step where its cell exists (R99). -/
theorem mergePixelStep_eq (s : State) (h : s.params.inRange s.x s.y = true) :
    mergePixelStep s = .next (s.setPixel .go s.x s.y
      (stegoPixel (s.pixelAt .ga s.x s.y) (payloadAt s s.x s.y))) := by
  simp [mergePixelStep, readInputPixel, writeOutputPixel, memRead_of_inRange _ _ _ _ _ h,
    readPayloadPixel_of_inRange _ _ h, memWrite_of_inRange _ _ _ _ _ h, mergePixels_eq]

/-- The UNMERGE pixel step where its cell exists (R106). -/
theorem unmergePixelStep_eq (s : State) (h : s.params.inRange s.x s.y = true) :
    unmergePixelStep s = .next (trackBound (unmergePixel (s.pixelAt .ga s.x s.y))
      (s.setPixel .go s.x s.y (recoveredPixel (s.pixelAt .ga s.x s.y)))) := by
  simp [unmergePixelStep, readInputPixel, writeOutputPixel, memRead_of_inRange _ _ _ _ _ h,
    memWrite_of_inRange _ _ _ _ _ h, unmergePixel_eq]

/-- The state a pixel step makes before its end, where its cell exists (R92). -/
def pixelEffect (s : State) : State :=
  match s.opr with
  | .merge => s.setPixel .go s.x s.y (stegoPixel (s.pixelAt .ga s.x s.y) (payloadAt s s.x s.y))
  | .unmerge => trackBound (unmergePixel (s.pixelAt .ga s.x s.y))
      (s.setPixel .go s.x s.y (recoveredPixel (s.pixelAt .ga s.x s.y)))

theorem pixelStep_eq (s : State) (h : s.params.inRange s.x s.y = true) :
    pixelStep s = .next (pixelEffect s) := by
  unfold pixelStep pixelEffect
  cases s.opr
  · exact mergePixelStep_eq s h
  · exact unmergePixelStep_eq s h

/-- A pixel step whose cell does not exist faults (log 11). -/
theorem pixelStep_outOfRange (s : State) (h : s.params.inRange s.x s.y = false) :
    pixelStep s = .fault (.cellOutsideMemory .ga s.x s.y) := by
  unfold pixelStep
  cases s.opr <;> simp [mergePixelStep, unmergePixelStep, readInputPixel, memRead, h]

/-- Everything the core's step can do (R86, R92). -/
theorem coreStep_cases (s t : State) (h : coreStep s = .next t) :
    (s.status ≠ .busy ∧ t = s)
    ∨ (s.status = .busy ∧ s.params.inRange s.x s.y = true
        ∧ t = endPixelStep (isLast s) (pixelEffect s)) := by
  unfold coreStep at h
  split at h
  · rename_i hb
    cases hr : s.params.inRange s.x s.y
    · rw [pixelStep_outOfRange s hr] at h; cases h
    · rw [pixelStep_eq s hr] at h
      exact .inr ⟨hb, rfl, by simpa using h.symm⟩
  · exact .inl ⟨‹_›, by simpa using h.symm⟩

theorem coreStep_busy (s : State) (hb : s.status = .busy)
    (hr : s.params.inRange s.x s.y = true) :
    coreStep s = .next (endPixelStep (isLast s) (pixelEffect s)) := by
  simp [coreStep, hb, pixelStep_eq s hr]

theorem coreStep_quiet (s : State) (hb : s.status ≠ .busy) : coreStep s = .next s := by
  simp [coreStep, hb]

@[simp] theorem finishRun_status (s : State) : (finishRun s).status = .done := by
  unfold finishRun; split <;> rfl

/-! ### The fields a pixel step's effect leaves alone -/

@[simp] theorem pixelEffect_params (s : State) : (pixelEffect s).params = s.params := by
  unfold pixelEffect; split <;> simp
@[simp] theorem pixelEffect_status (s : State) : (pixelEffect s).status = s.status := by
  unfold pixelEffect; split <;> simp
@[simp] theorem pixelEffect_err (s : State) : (pixelEffect s).err = s.err := by
  unfold pixelEffect; split <;> simp
@[simp] theorem pixelEffect_aW (s : State) : (pixelEffect s).aW = s.aW := by
  unfold pixelEffect; split <;> simp
@[simp] theorem pixelEffect_aH (s : State) : (pixelEffect s).aH = s.aH := by
  unfold pixelEffect; split <;> simp
@[simp] theorem pixelEffect_aMode (s : State) : (pixelEffect s).aMode = s.aMode := by
  unfold pixelEffect; split <;> simp
@[simp] theorem pixelEffect_bW (s : State) : (pixelEffect s).bW = s.bW := by
  unfold pixelEffect; split <;> simp
@[simp] theorem pixelEffect_bH (s : State) : (pixelEffect s).bH = s.bH := by
  unfold pixelEffect; split <;> simp
@[simp] theorem pixelEffect_oW (s : State) : (pixelEffect s).oW = s.oW := by
  unfold pixelEffect; split <;> simp
@[simp] theorem pixelEffect_oH (s : State) : (pixelEffect s).oH = s.oH := by
  unfold pixelEffect; split <;> simp
@[simp] theorem pixelEffect_oMode (s : State) : (pixelEffect s).oMode = s.oMode := by
  unfold pixelEffect; split <;> simp
@[simp] theorem pixelEffect_x (s : State) : (pixelEffect s).x = s.x := by
  unfold pixelEffect; split <;> simp
@[simp] theorem pixelEffect_y (s : State) : (pixelEffect s).y = s.y := by
  unfold pixelEffect; split <;> simp
@[simp] theorem pixelEffect_opr (s : State) : (pixelEffect s).opr = s.opr := by
  unfold pixelEffect; split <;> simp
@[simp] theorem pixelEffect_ga (s : State) : (pixelEffect s).ga = s.ga := by
  unfold pixelEffect; split <;> simp
@[simp] theorem pixelEffect_gb (s : State) : (pixelEffect s).gb = s.gb := by
  unfold pixelEffect; split <;> simp
@[simp] theorem pixelEffect_result (s : State) : (pixelEffect s).result = s.result := by
  unfold pixelEffect; split <;> simp
@[simp] theorem pixelEffect_pending (s : State) : (pixelEffect s).pending = s.pending := by
  unfold pixelEffect; split <;> simp
@[simp] theorem pixelEffect_reply (s : State) : (pixelEffect s).reply = s.reply := by
  unfold pixelEffect; split <;> simp
@[simp] theorem pixelEffect_draws (s : State) : (pixelEffect s).draws = s.draws := by
  unfold pixelEffect; split <;> simp

@[simp] theorem pixelEffect_boundX_merge (s : State) (h : s.opr = .merge) :
    (pixelEffect s).boundX = s.boundX := by simp [pixelEffect, h]

@[simp] theorem pixelEffect_boundY_merge (s : State) (h : s.opr = .merge) :
    (pixelEffect s).boundY = s.boundY := by simp [pixelEffect, h]

/-- The pixel a pixel step writes to GO (R99, R106). -/
def outputPixel (s : State) : Pixel :=
  match s.opr with
  | .merge => stegoPixel (s.pixelAt .ga s.x s.y) (payloadAt s s.x s.y)
  | .unmerge => recoveredPixel (s.pixelAt .ga s.x s.y)

/-- A pixel step writes one cell of GO (R99, R106). -/
theorem pixelEffect_go (s : State) :
    (pixelEffect s).go = s.go.write s.x s.y (outputPixel s) := by
  unfold pixelEffect outputPixel; split <;> simp

/-- The bound after an UNMERGE pixel step (R107). -/
theorem pixelEffect_bound_unmerge (s : State) (h : s.opr = .unmerge) :
    (litAt s s.x s.y → (pixelEffect s).boundX = s.narrow (s.x + 1)
        ∧ (pixelEffect s).boundY = s.narrow (s.y + 1))
    ∧ (¬ litAt s s.x s.y → (pixelEffect s).boundX = s.boundX
        ∧ (pixelEffect s).boundY = s.boundY) := by
  have hn := isNonblack_unmergePixel s s.x s.y
  constructor
  · intro hl
    simp [pixelEffect, h, trackBound, hn.mpr hl, State.narrow]
  · intro hl
    have : isNonblack (unmergePixel (s.pixelAt .ga s.x s.y)) = false := by
      cases hb : isNonblack (unmergePixel (s.pixelAt .ga s.x s.y))
      · rfl
      · exact absurd (hn.mp hb) hl
    simp [pixelEffect, h, trackBound, this]

/-! ### The scan -/

/-- SCAN_ADV by cases (R91). -/
theorem scanAdvance_cases (s : State) :
    (isLast s = true ∧ scanAdvance s = s)
    ∨ (isLast s = false ∧ s.y + 1 = s.aH ∧ scanAdvance s = s.setPosition (s.narrow (s.x + 1)) 0)
    ∨ (s.y + 1 ≠ s.aH ∧ scanAdvance s = s.setPosition s.x (s.narrow (s.y + 1))) := by
  unfold scanAdvance
  cases hl : isLast s
  · cases hr : lastRow s
    · refine .inr (.inr ⟨?_, by simp⟩)
      intro e
      rw [(lastRow_iff s).mpr e] at hr
      cases hr
    · exact .inr (.inl ⟨rfl, (lastRow_iff s).mp hr, by simp⟩)
  · exact .inl ⟨rfl, by simp⟩

/-- A number that fits DIMW bits is not changed by narrowing. -/
theorem narrow_of_lt (s : State) (v : Nat) (h : v < 2 ^ s.params.dimW) : s.narrow v = v :=
  Nat.mod_eq_of_lt h

end Sys2Proof.Machine
end

