-- ==== Sys2Proof/Laws/Step.lean ====
section
/-! SUPPORT. The core's step in BUSY as one record update, and what the invariant gives there. -/

namespace Sys2Proof.Machine

open Sys2Proof.Safety

/-- The bound after a pixel step: one past the position of a non-black pixel of an UNMERGE run,
else as before (44_unmerge.md R107). -/
def boundAfter (s : State) : Nat × Nat :=
  if s.opr = .unmerge ∧ isNonblack (unmergePixel (s.pixelAt .ga s.x s.y)) = true then
    (s.narrow (s.x + 1), s.narrow (s.y + 1))
  else (s.boundX, s.boundY)

/-- The state after a pixel step, field by field (42_sequencer.md R92). -/
def afterPixel (s : State) : State :=
  { s with
    go := s.go.write s.x s.y (outputPixel s)
    result := .none
    boundX := (boundAfter s).1
    boundY := (boundAfter s).2
    x := if isLast s then s.x else if lastRow s then s.narrow (s.x + 1) else s.x
    y := if isLast s then s.y else if lastRow s then 0 else s.narrow (s.y + 1)
    status := if isLast s then .done else s.status
    oW := if isLast s = true ∧ s.opr = .unmerge then (boundAfter s).1 else s.oW
    oH := if isLast s = true ∧ s.opr = .unmerge then (boundAfter s).2 else s.oH }

theorem endPixelStep_pixelEffect (s : State) :
    endPixelStep (isLast s) (pixelEffect s) = afterPixel s := by
  have hl : isLast (pixelEffect s) = isLast s := by simp [isLast, lastRow]
  have hr : lastRow (pixelEffect s) = lastRow s := by simp [lastRow]
  have hn : ∀ v, (pixelEffect s).narrow v = s.narrow v := by simp [State.narrow]
  have hb : (pixelEffect s).boundX = (boundAfter s).1
      ∧ (pixelEffect s).boundY = (boundAfter s).2 := by
    cases ho : s.opr
    · simp [boundAfter, ho]
    · by_cases hk : isNonblack (unmergePixel (s.pixelAt .ga s.x s.y)) = true
      · have := (pixelEffect_bound_unmerge s ho).1 ((isNonblack_unmergePixel _ _ _).mp hk)
        simp [boundAfter, ho, hk, this]
      · have := (pixelEffect_bound_unmerge s ho).2
          (fun h => hk ((isNonblack_unmergePixel _ _ _).mpr h))
        simp [boundAfter, ho, hk, this]
  have eff : pixelEffect s = { s with go := (pixelEffect s).go, boundX := (pixelEffect s).boundX,
                                      boundY := (pixelEffect s).boundY } := by
    unfold pixelEffect
    split
    · rfl
    · unfold trackBound; split <;> rfl
  rw [hb.1, hb.2, pixelEffect_go] at eff
  unfold endPixelStep scanAdvance finishRun
  rw [hl, hr, hn, hn]
  cases hl' : isLast s
  · cases hr' : lastRow s <;> rw [eff] <;> simp [afterPixel, hl', hr'] <;> rfl
  · cases ho : s.opr <;> rw [eff] <;> simp [afterPixel, hl', ho] <;> rfl

/-- The core's step in BUSY where the cell of the scan position exists (R92). -/
theorem coreStep_afterPixel (s : State) (hb : s.status = .busy)
    (hr : s.params.inRange s.x s.y = true) : coreStep s = .next (afterPixel s) := by
  rw [coreStep_busy s hb hr, endPixelStep_pixelEffect]

/-- Everything the core's step can do (R86, R92). -/
theorem coreStep_inversion (s t : State) (h : coreStep s = .next t) :
    (s.status ≠ .busy ∧ t = s)
    ∨ (s.status = .busy ∧ s.params.inRange s.x s.y = true ∧ t = afterPixel s) := by
  rcases coreStep_cases s t h with h | ⟨hb, hr, rfl⟩
  · exact .inl h
  · exact .inr ⟨hb, hr, endPixelStep_pixelEffect s⟩

/-- With no event waiting a step is the core's turn (log 4). -/
theorem step_of_pending_nil (s : State) (h : s.pending = []) : step s = coreStep s := by
  simp [step, nextEvent, h]

/-- What the invariant gives in BUSY: the cell of the scan position exists, neither increment wraps,
and no error is recorded. -/
theorem busy_facts (s : State) (h : GoodState s) (hb : s.status = .busy) :
    s.params.inRange s.x s.y = true ∧ s.narrow (s.x + 1) = s.x + 1 ∧ s.narrow (s.y + 1) = s.y + 1
    ∧ s.err = .none := by
  obtain ⟨hp, -, -, he, hr, -⟩ := h
  obtain ⟨hg, hxy, -⟩ := hr hb
  rw [params_legal_iff] at hp
  rw [legalGeometry_iff] at hg
  refine ⟨(inRange_iff _ _ _).mpr ⟨by omega, by omega⟩, narrow_of_lt _ _ (by omega),
    narrow_of_lt _ _ (by omega), ?_⟩
  cases e : s.err
  · rfl
  · have := he.mp e
    simp [hb] at this

/-- The pixels of GO after a pixel step (R99, R106). -/
theorem afterPixel_pixelAt_go (s : State) (x y : Nat) :
    (afterPixel s).pixelAt .go x y =
      if x = s.x ∧ y = s.y then outputPixel s else s.pixelAt .go x y := by
  simp only [State.pixelAt, State.memory, afterPixel, Memory.read_write]

end Sys2Proof.Machine
end

