-- ==== Sys2Proof/Laws/Host.lean ====
section
/-! SUPPORT. What a host transaction can do, said once: the register port and the grid port. -/

namespace Sys2Proof.Machine

open Sys2Proof.Safety

/-- An index has a register exactly when it is at most 10 (10_state.md R24, R25 d). -/
theorem ofIndex_isSome (n : Nat) : (Reg.ofIndex n).isSome = true ↔ n ≤ 10 := by
  unfold Reg.ofIndex
  split <;> simp_all
  omega

/-- WR of a fitting value of a register that exists. -/
theorem transact_wr (s : State) (idx v : Nat) (r : Reg) (hi : Reg.ofIndex idx = some r)
    (hv : v < 2 ^ r.width s.params) : transact (.wr idx v) s = writeRegister r v s := by
  simp [transact, hi, hv]

/-- RD of a register that exists. -/
theorem transact_rd (s : State) (idx : Nat) (r : Reg) (hi : Reg.ofIndex idx = some r) :
    transact (.rd idx) s = .next (readRegister r s) := by
  simp [transact, hi]

/-- The host's write of a command word is the operation it decodes to (30_encoding.md R57). -/
theorem transact_command (w : CommandWord) (s : State) :
    transact (.wr 0 w.toNat) s = exec (decodeCommand w) s := by
  have := w.isLt
  rw [transact_wr s 0 w.toNat .ctrl rfl (by simpa [Reg.width] using this)]
  simp [writeRegister]

/-- A write of an input register outside BUSY (10_state.md R25). -/
theorem writeRegister_quiet (r : Reg) (v : Nat) (s : State) (hr : r ≠ .ctrl)
    (hs : s.status ≠ .busy) : writeRegister r v s = .next (storeRegister r v s) := by
  cases r <;> first | exact absurd rfl hr | simp [writeRegister, hs]

/-- A write of an input register in BUSY (70_reset_and_hazards.md R134). -/
theorem writeRegister_busy (r : Reg) (v : Nat) (s : State) (hr : isInputRegister r = true)
    (hs : s.status = .busy) : writeRegister r v s = .refused .writeWhileBusy := by
  cases r <;> simp_all [writeRegister, isInputRegister]

/-- A read that is no draw (10_state.md R25 b). -/
theorem readRegister_plain (r : Reg) (s : State)
    (h : isOutputRegister r = false ∨ s.status ≠ .busy) :
    readRegister r s = s.setReply (.register (s.readRegister r)) := by
  rcases h with h | h <;> simp [readRegister, h]

/-- A read of an output register in BUSY is a draw (70_reset_and_hazards.md R135). -/
theorem readRegister_drawn (r : Reg) (s : State) (h : isOutputRegister r = true)
    (hs : s.status = .busy) : readRegister r s =
      s.useDraw.setReply (.register (Config.drawnRegister s.draws % 2 ^ r.width s.params)) := by
  simp [readRegister, h, hs]

theorem ofSelect_select (id : GridId) : GridId.ofSelect (GridId.select id) = some id := by
  cases id <;> rfl

theorem withCell_select (id : GridId) (x y : Nat) (s : State) (k : GridId → Outcome)
    (h : s.params.inRange x y = true) : withCell (GridId.select id) x y s k = k id := by
  simp [withCell, ofSelect_select, h]

/-- GWR of a cell that exists (30_encoding.md R68). -/
theorem transact_gwr (s : State) (id : GridId) (x y : Nat) (w : PixelWord)
    (h : s.params.inRange x y = true) :
    transact (.gwr (GridId.select id) x y w) s = writeCell id x y w s :=
  withCell_select id x y s _ h

/-- GRD of a cell that exists (30_encoding.md R68). -/
theorem transact_grd (s : State) (id : GridId) (x y : Nat) (h : s.params.inRange x y = true) :
    transact (.grd (GridId.select id) x y) s = .next (readCell id x y s) :=
  withCell_select id x y s _ h

/-- A cell read that is no draw (20_memory.md R36). -/
theorem readCell_plain (id : GridId) (x y : Nat) (s : State)
    (h : id ≠ .go ∨ outputCellIsDrawn s x y = false) :
    readCell id x y s = s.setReply (.pixel (wordOfPixel (s.pixelAt id x y))) := by
  rcases h with h | h <;> simp [readCell, h]

/-- A cell read that is a draw (70_reset_and_hazards.md R135, 44_unmerge.md R109). -/
theorem readCell_drawn (x y : Nat) (s : State) (h : outputCellIsDrawn s x y = true) :
    readCell .go x y s =
      s.useDraw.setReply (.pixel (wordOfPixel (Config.drawnPixel s.draws))) := by
  simp [readCell, h]

/-- Everything a transaction that answers a next state can do. -/
theorem transact_cases (t : Transaction) (s s' : State) (h : transact t s = .next s') :
    (∃ v, v < 4 ∧ t = .wr 0 v ∧ exec (decodeCommand (BitVec.ofNat 2 v)) s = .next s')
    ∨ (∃ idx v r, t = .wr idx v ∧ Reg.ofIndex idx = some r ∧ v < 2 ^ r.width s.params
        ∧ (isInputRegister r = true → s.status ≠ .busy) ∧ s' = storeRegister r v s)
    ∨ (∃ idx r, t = .rd idx ∧ Reg.ofIndex idx = some r ∧ s' = readRegister r s)
    ∨ (∃ m id x y w, t = .gwr m x y w ∧ s.params.inRange x y = true ∧ s.status ≠ .busy
        ∧ s' = s.setPixel id x y (pixelOfWord w))
    ∨ ∃ m id x y, t = .grd m x y ∧ s.params.inRange x y = true ∧ s' = readCell id x y s := by
  cases t with
  | wr idx v =>
    simp only [transact] at h
    split at h
    · cases h
    · rename_i r hr
      split at h
      · rename_i hv
        by_cases hc : r = .ctrl
        · subst hc
          left
          have h0 : idx = 0 := by
            unfold Reg.ofIndex at hr
            split at hr <;> first | rfl | cases hr
          subst h0
          exact ⟨v, by simpa [Reg.width] using hv, rfl, h⟩
        · right; left
          refine ⟨idx, v, r, rfl, hr, hv, ?_⟩
          by_cases hb : isInputRegister r = true ∧ s.status = .busy
          · rw [writeRegister_busy r v s hb.1 hb.2] at h; cases h
          · refine ⟨fun hi hs => hb ⟨hi, hs⟩, ?_⟩
            cases r <;> simp_all [writeRegister, isInputRegister]
      · cases h
  | rd idx =>
    simp only [transact] at h
    split at h
    · cases h
    · rename_i r hr
      exact .inr (.inr (.inl ⟨idx, r, rfl, hr, by simpa using h.symm⟩))
  | gwr m x y w =>
    simp only [transact, withCell] at h
    split at h
    · cases h
    · rename_i id _
      split at h
      · rename_i hr
        unfold writeCell at h
        split at h
        · cases h
        · rename_i hb
          exact .inr (.inr (.inr (.inl ⟨m, id, x, y, w, rfl, hr, hb, by simpa using h.symm⟩)))
      · cases h
  | grd m x y =>
    simp only [transact, withCell] at h
    split at h
    · cases h
    · rename_i id _
      split at h
      · rename_i hr
        exact .inr (.inr (.inr (.inr ⟨m, id, x, y, rfl, hr, by simpa using h.symm⟩)))
      · cases h

end Sys2Proof.Machine
end

