-- ==== Sys2Proof/Laws/PerInstr.lean ====
section
/-! SUPPORT. One lemma per operation about its encoding: it is well formed as a command exactly when
it has a command word, and that word decodes to it (30_encoding.md R58, R64). -/

namespace Sys2Proof.Laws.Encoding

/-- An operation has a command word exactly when it is at the command level, and every word it has
decodes to it. -/
def Statement (i : Instr) : Prop :=
  (i.wellFormed = true ↔ (encode i).isSome = true) ∧ ∀ w, encode i = some w → decodeCommand w = i

/-- The statement for an operation with a command word. -/
theorem of_word {i : Instr} (w : CommandWord) (hf : i.wellFormed = true) (he : encode i = some w)
    (hd : decodeCommand w = i) : Statement i := by
  refine ⟨by simp [hf, he], fun v hv => ?_⟩
  rw [he] at hv
  exact Option.some.inj hv ▸ hd

/-- The statement for an internal operation, which has no command word. -/
theorem of_none {i : Instr} (hf : i.wellFormed = false) (he : encode i = none) : Statement i := by
  refine ⟨by simp [hf, he], fun v hv => ?_⟩
  rw [he] at hv
  cases hv

theorem merge : Statement .merge := of_word 0b01 rfl rfl (by decide)

theorem unmerge : Statement .unmerge := of_word 0b11 rfl rfl (by decide)

theorem nop0 : Statement .nop0 := of_word 0b00 rfl rfl (by decide)

theorem nop2 : Statement .nop2 := of_word 0b10 rfl rfl (by decide)

theorem sizechk : Statement .sizechk := of_none rfl rfl

theorem scanAdv : Statement .scanAdv := of_none rfl rfl

theorem boundUpd : Statement .boundUpd := of_none rfl rfl

theorem crop : Statement .crop := of_none rfl rfl

theorem psel : Statement .psel := of_none rfl rfl

theorem mergePx (c p : Pixel) : Statement (.mergePx c p) := of_none rfl rfl

theorem unmergePx (q : Pixel) : Statement (.unmergePx q) := of_none rfl rfl

theorem nonblack (q : Pixel) : Statement (.nonblack q) := of_none rfl rfl

theorem hi4 (v : Byte) : Statement (.hi4 v) := of_none rfl rfl

theorem lo4 (v : Byte) : Statement (.lo4 v) := of_none rfl rfl

theorem pack (hn ln : Nibble) : Statement (.pack hn ln) := of_none rfl rfl

theorem expand (n : Nibble) : Statement (.expand n) := of_none rfl rfl

theorem mergeCh (c p : Byte) : Statement (.mergeCh c p) := of_none rfl rfl

theorem unmergeCh (v : Byte) : Statement (.unmergeCh v) := of_none rfl rfl

end Sys2Proof.Laws.Encoding
end

