-- ==== Sys2Proof/Laws/Run.lean ====
section
/-! SUPPORT. Runs of several steps: one step peeled off, runs joined, and a quiet machine; the turns
of the core and the polls that WAIT is made of. -/

namespace Sys2Proof.Machine

open Sys2Proof.Safety

@[simp] theorem runSteps_zero (s : State) : runSteps 0 s = .next s := rfl

/-- A run begins with a step that answers a next state. -/
theorem runSteps_succ (n : Nat) (s t : State) (h : step s = .next t) :
    runSteps (n + 1) s = runSteps n t := by
  have h' : Sys2Proof.core.step s = Host.Outcome.next t := h
  simp only [runSteps, Host.Core.run, h']
  rfl

/-- The first step of a run that answers a next state. -/
theorem runSteps_succ_inv (n : Nat) (s t : State) (h : runSteps (n + 1) s = .next t) :
    ∃ u, step s = .next u ∧ runSteps n u = .next t := by
  cases hs : step s with
  | next u => exact ⟨u, rfl, by rw [← runSteps_succ n s u hs]; exact h⟩
  | fault f =>
    have h' : Sys2Proof.core.step s = Host.Outcome.fault f := hs
    simp [runSteps, Host.Core.run, h'] at h
  | refused r =>
    have h' : Sys2Proof.core.step s = Host.Outcome.refused r := hs
    simp [runSteps, Host.Core.run, h'] at h

/-- Two runs one after the other. -/
theorem runSteps_add (m n : Nat) (s t : State) (h : runSteps m s = .next t) :
    runSteps (m + n) s = runSteps n t := by
  induction m generalizing s with
  | zero => cases h; simp
  | succ m ih =>
    obtain ⟨u, hu, hr⟩ := runSteps_succ_inv m s t h
    rw [show m + 1 + n = (m + n) + 1 by omega, runSteps_succ _ _ _ hu, ih u hr]

/-- Outside BUSY, with no event waiting, nothing happens (42_sequencer.md R86). -/
theorem runSteps_quiet (n : Nat) (s : State) (hp : s.pending = []) (hb : s.status ≠ .busy) :
    runSteps n s = .next s := by
  induction n with
  | zero => rfl
  | succ n ih =>
    rw [runSteps_succ n s s (by rw [step_of_pending_nil s hp, coreStep_quiet s hb]), ih]

/-- Everything a step that answers a next state can do: the core's turn, or the event at the head of
the queue (log 4). -/
theorem step_cases (s t : State) (h : step s = .next t) :
    (s.pending = [] ∧ coreStep s = .next t)
    ∨ ∃ e rest, s.pending = e :: rest ∧ happen e { s with pending := rest } = .next t := by
  unfold step nextEvent at h
  split at h
  · exact .inl ⟨‹_›, h⟩
  · exact .inr ⟨_, _, ‹_›, h⟩

/-! ### WAIT -/

@[simp] theorem coreTurns_zero (s : State) : coreTurns 0 s = .next s := rfl

/-- Turns of the core begin with a step that answers a next state. -/
theorem coreTurns_succ (n : Nat) (s t : State) (h : coreStep s = .next t) :
    coreTurns (n + 1) s = coreTurns n t := by simp [coreTurns, h]

/-- Outside BUSY the core's turns change nothing (42_sequencer.md R86). -/
theorem coreTurns_quiet (n : Nat) (s : State) (hb : s.status ≠ .busy) :
    coreTurns n s = .next s := by
  induction n with
  | zero => rfl
  | succ n ih => rw [coreTurns_succ n s s (coreStep_quiet s hb), ih]

/-- A poll of STATUS (30_encoding.md R70). -/
theorem transact_poll (s : State) :
    transact (.rd 1) s = .next (s.setReply (.register (statusCode s.status))) := by
  rw [transact_rd s 1 .status rfl, readRegister_plain _ _ (.inl rfl)]; rfl

/-- Outside BUSY the first poll is the last. -/
theorem waitPolls_quiet (gaps : List Nat) (s : State) (hb : s.status ≠ .busy) :
    waitPolls gaps s = .next (s.setReply (.register (statusCode s.status))) := by
  cases gaps with
  | nil => exact transact_poll s
  | cons n gaps =>
    rw [waitPolls, transact_poll]
    cases h : s.status <;> simp_all [State.setReply, statusCode]

/-- In BUSY the core takes its turns and the polls go on. -/
theorem waitPolls_busy (n : Nat) (gaps : List Nat) (s : State) (hb : s.status = .busy) :
    waitPolls (n :: gaps) s =
      andThen (coreTurns n (s.setReply (.register 1))) (waitPolls gaps) := by
  rw [waitPolls, transact_poll]
  simp [State.setReply, statusCode, hb]

end Sys2Proof.Machine
end

