-- ==== Sys2Proof/Tests/Slice0.lean ====
section
/-! SUPPORT. Tests of one step or one operation, with expected results from spec/95_test_vectors.md
and the encodings of spec/30_encoding.md; and, for every statement with hypotheses, a state and
operands that meet them. -/

namespace Sys2Proof.Tests

open Sys2Proof.Machine Sys2Proof.Safety

/-! ### States -/

/-- The next state, if there is one. -/
def after : Outcome → Option State
  | .next s => some s
  | .fault _ => none
  | .refused _ => none

/-- The refusal, if there is one. -/
def refusal : Outcome → Option Refusal
  | .next _ => none
  | .fault _ => none
  | .refused r => some r

/-- The result wires after an operation run on the reset state. -/
def resultOf (i : Instr) : Option OpResult := (after (exec i State.reset)).map (·.result)

/-- Program P1 of 95_test_vectors.md when its MERGE is about to be issued (mode 5 as in 2.3). -/
def idleMerge : State :=
  { State.reset with
    aW := 2, aH := 2, aMode := 5, bW := 1, bH := 1
    ga := ⟨0, [⟨0, 0, ⟨200, 100, 50⟩⟩, ⟨0, 1, ⟨200, 100, 50⟩⟩,
               ⟨1, 0, ⟨200, 100, 50⟩⟩, ⟨1, 1, ⟨200, 100, 50⟩⟩]⟩
    gb := ⟨0, [⟨0, 0, ⟨10, 20, 30⟩⟩]⟩ }

/-- Vector U6 of 95_test_vectors.md when its UNMERGE is about to be issued. -/
def idleUnmerge : State :=
  { State.reset with
    aW := 2, aH := 3, aMode := 7
    ga := ⟨0, [⟨0, 0, ⟨16, 32, 48⟩⟩, ⟨0, 1, ⟨0, 0, 0⟩⟩, ⟨0, 2, ⟨17, 34, 51⟩⟩,
               ⟨1, 0, ⟨245, 0, 0⟩⟩, ⟨1, 1, ⟨240, 240, 240⟩⟩, ⟨1, 2, ⟨0, 0, 0⟩⟩]⟩ }

/-- P1 in BUSY at a scan position. -/
def mergingAt (x y : Nat) : State :=
  { idleMerge with status := .busy, oW := 2, oH := 2, oMode := 5, x := x, y := y }

/-- U6 in BUSY at a scan position with a bound. -/
def unmergingAt (x y bx bY : Nat) : State :=
  { idleUnmerge with
    status := .busy, opr := .unmerge, oW := 2, oH := 3, oMode := 7, x := x, y := y
    boundX := bx, boundY := bY }

/-- A 1×1 carrier and a 1×1 payload (vector M2 of 95_test_vectors.md). -/
def tiny : State :=
  { State.reset with
    aW := 1, aH := 1, bW := 1, bH := 1
    ga := ⟨0, [⟨0, 0, ⟨0x12, 0x34, 0x56⟩⟩]⟩
    gb := ⟨0, [⟨0, 0, ⟨0xAB, 0xCD, 0xEF⟩⟩]⟩ }

/-- A 2×1 result in DONE, as U6 leaves it. -/
def doneUnmerge : State :=
  { idleUnmerge with
    status := .done, opr := .unmerge, oW := 2, oH := 1, oMode := 7, x := 1, y := 2
    boundX := 2, boundY := 1
    go := ⟨0, [⟨0, 0, ⟨0, 0, 0⟩⟩, ⟨1, 0, ⟨80, 0, 0⟩⟩]⟩ }

/-- P1 with a payload that does not fit, after its SizeError (P2 step 7). -/
def failed : State := { idleMerge with bW := 3, status := .error, err := .sizeError }

/-- A state with the host's next events. -/
def withEvents (s : State) (es : List HostEvent) : State := { s with pending := es }

/-! ### Decoding: words written out from the tables of 30_encoding.md R57, R58 -/

theorem test_decode_merge : decodeTableWord 8 0b00000001 = some .merge := by decide
theorem test_decode_unmerge : decodeTableWord 8 0b00000011 = some .unmerge := by decide
theorem test_decode_nop0 : decodeTableWord 8 0b00000000 = some .nop0 := by decide
theorem test_decode_nop2 : decodeTableWord 8 0b00000010 = some .nop2 := by decide
/-- R66: a third bit is no command word. -/
theorem test_decode_wide : decodeTableWord 8 0b00000100 = none
    ∧ decodeBytes [0x05] = .error .widerThanCommandWord
    ∧ decodeBytes [0x01, 0x01] = .error .widerThanCommandWord
    ∧ decodeBytes [] = .error .noCommandWord := ⟨by decide, rfl, rfl, rfl⟩
/-- R60: 0xC06131 is (192, 97, 49). -/
theorem test_pixel_word : pixelOfWord 0xC06131 = ⟨192, 97, 49⟩
    ∧ wordOfPixel ⟨0xC8, 0x64, 0x32⟩ = 0xC86432 := by decide

/-! ### Well-formedness: an ill-formed term for each check -/

theorem test_wf_internal : Instr.wellFormed .crop = false ∧ Instr.wellFormed (.hi4 3) = false
    ∧ Instr.wellFormed .merge = true := by decide
theorem test_wf_register : Transaction.wellFormed Params.suggested (.wr 11 0) = false
    ∧ Transaction.wellFormed Params.suggested (.rd 11) = false
    ∧ Transaction.wellFormed Params.suggested (.rd 10) = true := by decide
theorem test_wf_value : Transaction.wellFormed Params.suggested (.wr 0 4) = false
    ∧ Transaction.wellFormed Params.suggested (.wr 3 65536) = false
    ∧ Transaction.wellFormed Params.suggested (.wr 5 256) = false
    ∧ Transaction.wellFormed Params.suggested (.wr 3 65535) = true := by decide
theorem test_wf_select : Transaction.wellFormed Params.suggested (.gwr 0b11 0 0 0) = false
    ∧ Transaction.wellFormed Params.suggested (.grd 0b11 0 0) = false
    ∧ Transaction.wellFormed Params.suggested (.grd 0b10 0 0) = true := by decide
theorem test_wf_coordinate : Transaction.wellFormed Params.suggested (.gwr 0 65535 0 0) = false
    ∧ Transaction.wellFormed Params.suggested (.grd 0 0 65535) = false
    ∧ Transaction.wellFormed Params.suggested (.grd 0 65534 65534) = true := by decide
theorem test_params_legal : Params.legal Params.suggested = true ∧ Params.legal ⟨0, 1, 1⟩ = false
    ∧ Params.legal ⟨2, 4, 1⟩ = false ∧ Params.legal ⟨2, 3, 0⟩ = false := by decide

/-! ### Channel operations (95_test_vectors.md 2.1) -/

theorem test_hi4 : resultOf (.hi4 0xC8) = some (.nibble 12)
    ∧ resultOf (.hi4 0x0F) = some (.nibble 0) := by decide
theorem test_lo4 : resultOf (.lo4 0xC8) = some (.nibble 8)
    ∧ resultOf (.lo4 0x10) = some (.nibble 0) := by decide
theorem test_pack : resultOf (.pack 6 1) = some (.byte 97)
    ∧ resultOf (.pack 12 0) = some (.byte 192) := by decide
theorem test_expand : resultOf (.expand 10) = some (.byte 160)
    ∧ resultOf (.expand 1) = some (.byte 16) := by decide
theorem test_mergeCh : resultOf (.mergeCh 0xAB 0xCD) = some (.byte 0xAC)
    ∧ resultOf (.mergeCh 0x0F 0x0F) = some (.byte 0) := by decide
theorem test_unmergeCh : resultOf (.unmergeCh 0xAC) = some (.byte 0xC0)
    ∧ resultOf (.unmergeCh 0x08) = some (.byte 0x80) := by decide

/-! ### Pixel operations (95_test_vectors.md 2.2) -/

/-- GB[x, y] = (9, 9, 9) around the edge of a 2×3 payload. -/
def nines (x y : Nat) : State :=
  { State.reset with bW := 2, bH := 3, x := x, y := y, gb := ⟨0, [⟨1, 2, ⟨9, 9, 9⟩⟩, ⟨2, 2, ⟨9, 9, 9⟩⟩]⟩ }

theorem test_psel_inside : (after (exec .psel (nines 1 2))).map (·.result)
    = some (.pixel ⟨9, 9, 9⟩) := by decide
theorem test_psel_outside : (after (exec .psel (nines 2 2))).map (·.result)
    = some (.pixel ⟨0, 0, 0⟩)
    ∧ (after (exec .psel (nines 1 3))).map (·.result) = some (.pixel ⟨0, 0, 0⟩) := by decide
theorem test_mergePx : resultOf (.mergePx ⟨200, 100, 50⟩ ⟨10, 20, 30⟩)
    = some (.pixel ⟨192, 97, 49⟩) := by decide
theorem test_mergePx_lanes : resultOf (.mergePx ⟨77, 77, 77⟩ ⟨255, 0, 16⟩)
    = some (.pixel ⟨79, 64, 65⟩) := by decide
theorem test_unmergePx : resultOf (.unmergePx ⟨250, 140, 78⟩) = some (.pixel ⟨160, 192, 224⟩)
    ∧ resultOf (.unmergePx ⟨0, 0, 9⟩) = some (.pixel ⟨0, 0, 144⟩) := by decide
theorem test_nonblack : resultOf (.nonblack ⟨0, 0, 144⟩) = some (.bit true)
    ∧ resultOf (.nonblack ⟨0, 16, 0⟩) = some (.bit true)
    ∧ resultOf (.nonblack ⟨16, 0, 0⟩) = some (.bit true)
    ∧ resultOf (.nonblack ⟨0, 0, 0⟩) = some (.bit false) := by decide

/-! ### Sequencer operations (95_test_vectors.md 2.3 to 2.5) -/

/-- Sizes of the table of SIZECHK. -/
def sizes (aw ah bw bh : Nat) : State := { State.reset with aW := aw, aH := ah, bW := bw, bH := bh }

/-- Z1, Z2, Z4: each axis alone fails, whatever the number of pixels. -/
theorem test_sizechk_fails : (after (exec .sizechk (sizes 10 10 11 9))).map (·.err)
      = some .sizeError
    ∧ (after (exec .sizechk (sizes 10 10 9 11))).map (·.status) = some .error
    ∧ (after (exec .sizechk (sizes 10 10 0 11))).map (·.result) = some (.bit false) := by decide
/-- Z3, Z5: equality and an empty payload pass. -/
theorem test_sizechk_passes : (after (exec .sizechk (sizes 10 10 10 10))).map (·.result)
      = some (.bit true)
    ∧ (after (exec .sizechk (sizes 10 10 0 0))).map (·.err) = some .none := by decide
/-- The scan of a 2×3 grid: (0,1) (0,2) (1,0). -/
theorem test_scanAdv : (after (exec .scanAdv (unmergingAt 0 1 1 1))).map (fun t => (t.x, t.y))
      = some (0, 2)
    ∧ (after (exec .scanAdv (unmergingAt 0 2 1 1))).map (fun t => (t.x, t.y)) = some (1, 0) := by
  decide
/-- Nothing after the last coordinate (1, 2). -/
theorem test_scanAdv_last : (after (exec .scanAdv (unmergingAt 1 2 1 1))).map (fun t => (t.x, t.y))
    = some (1, 2) := by decide
/-- U6, step 3: BOUND_Y goes down from 3 to 1. -/
theorem test_boundUpd : (after (exec .boundUpd (unmergingAt 1 0 1 3))).map
    (fun t => (t.boundX, t.boundY)) = some (2, 1) := by decide
/-- U6: CROP gives 2×1 and leaves the mode. -/
theorem test_crop : (after (exec .crop (unmergingAt 1 2 2 1))).map
    (fun t => (t.oW, t.oH, t.oMode)) = some (2, 1, 7) := by decide

/-! ### Commands (95_test_vectors.md 2.3) -/

theorem test_merge_start : (after (exec .merge idleMerge)).map
    (fun t => (t.status, t.opr, t.oW, t.oH, t.oMode)) = some (.busy, .merge, 2, 2, 5) := by decide
/-- P2 step 7: SizeError, O_W and O_H keep their reset values. -/
theorem test_merge_sizeError : (after (exec .merge { idleMerge with bW := 3 })).map
    (fun t => (t.status, t.err, t.oW, t.oH)) = some (.error, .sizeError, 0, 0) := by decide
theorem test_unmerge_start : (after (exec .unmerge { idleUnmerge with boundX := 9 })).map
    (fun t => (t.status, t.opr, t.boundX, t.boundY, t.oMode)) = some (.busy, .unmerge, 1, 1, 7) := by
  decide
/-- From ERROR with B_W = 99: ERR goes from 1 to 0 and B_W is not looked at. -/
theorem test_unmerge_from_error : (after (exec .unmerge { failed with bW := 99 })).map
    (fun t => (t.status, t.err)) = some (.busy, .none) := by decide
/-- CTRL writes of 00 and 10 change nothing; OPR is not loaded. -/
theorem test_nop0 : after (exec .nop0 doneUnmerge) = some doneUnmerge := rfl
theorem test_nop2 : after (exec .nop2 doneUnmerge) = some doneUnmerge := rfl
/-- After reset a START is refused, for A_W = A_H = 0 (R32). -/
theorem test_start_after_reset :
    refusal (step (State.reset.withFetchWord 8 1)) = some .illegalGeometry
    ∧ refusal (step (State.reset.withFetchWord 8 3)) = some .illegalGeometry := by decide
theorem test_start_in_busy : after (exec .unmerge (mergingAt 0 1)) = some (mergingAt 0 1) := rfl

/-! ### Steps -/

/-- P1, k = 0: (192, 97, 49) at (0, 0), then (0, 1). -/
theorem test_merge_pixel_step : (after (step (mergingAt 0 0))).map
    (fun t => (t.pixelAt .go 0 0, t.x, t.y, t.status)) = some (⟨192, 97, 49⟩, 0, 1, .busy) := by decide
/-- P1, k = 3: the last pixel step ends the run. -/
theorem test_merge_last_step : (after (step (mergingAt 1 1))).map
    (fun t => (t.pixelAt .go 1 1, t.status, t.oW)) = some (⟨192, 96, 48⟩, .done, 2) := by decide
/-- U6, k = 3. -/
theorem test_unmerge_pixel_step : (after (step (unmergingAt 1 0 1 3))).map
    (fun t => (t.pixelAt .go 1 0, t.boundX, t.boundY)) = some (⟨80, 0, 0⟩, 2, 1) := by decide
/-- U6, k = 5: a black last pixel keeps the bound, and the crop gives 2×1. -/
theorem test_unmerge_last_step : (after (step (unmergingAt 1 2 2 1))).map
    (fun t => (t.status, t.oW, t.oH, t.oMode)) = some (.done, 2, 1, 7) := by decide
/-- P5 step 14. -/
theorem test_read_result : (after (transact (.grd 0b10 1 0) doneUnmerge)).map (·.reply)
    = some (.pixel 0x500000) := by decide
/-- P1 step 4. -/
theorem test_write_pixel : (after (transact (.gwr 0 0 0 0xC86432) State.reset)).map
    (fun t => t.pixelAt .ga 0 0) = some ⟨200, 100, 50⟩ := by decide
/-- Reset in BUSY keeps GA (70_reset_and_hazards.md R131). -/
theorem test_reset_in_busy : (after (step (withEvents (mergingAt 0 1) [.reset]))).map
    (fun t => (t.status, t.aW, t.pixelAt .ga 0 0)) = some (.idle, 0, ⟨200, 100, 50⟩) := by decide

/-- WAIT polls on through BUSY, with no turn, one turn and two turns between the polls; P2 step 8
reads 3 at once (30_encoding.md R70). -/
theorem test_wait : (after (wait [0, 1] (mergingAt 1 0))).map (fun t => (t.reply, t.status))
      = some (.register 2, .done)
    ∧ (after (wait [2] (mergingAt 1 0))).map (·.reply) = some (.register 2)
    ∧ (after (wait [] failed)).map (·.reply) = some (.register 3) := by decide

/-! ### Witnesses: states and operands that meet the hypotheses of the statements -/

theorem test_witness_good_idle : GoodState idleMerge ∧ GoodState idleUnmerge ∧ GoodState tiny :=
  ⟨⟨by decide, by decide, by decide, by decide, by decide, by decide⟩,
   ⟨by decide, by decide, by decide, by decide, by decide, by decide⟩,
   ⟨by decide, by decide, by decide, by decide, by decide, by decide⟩⟩

theorem test_witness_good_ended : GoodState doneUnmerge ∧ GoodState failed :=
  ⟨⟨by decide, by decide, by decide, by decide, by decide, by decide⟩,
   ⟨by decide, by decide, by decide, by decide, by decide, by decide⟩⟩

theorem test_witness_good_merging : GoodState (mergingAt 0 0) ∧ GoodState (mergingAt 0 1)
    ∧ GoodState (mergingAt 1 1) :=
  ⟨⟨by decide, by decide, by decide, by decide, by decide, by decide⟩,
   ⟨by decide, by decide, by decide, by decide, by decide, by decide⟩,
   ⟨by decide, by decide, by decide, by decide, by decide, by decide⟩⟩

theorem test_witness_good_unmerging : GoodState (unmergingAt 0 0 1 1) ∧ GoodState (unmergingAt 0 2 1 1)
    ∧ GoodState (unmergingAt 1 2 2 1) :=
  ⟨⟨by decide, by decide, by decide, by decide, by decide, by decide⟩,
   ⟨by decide, by decide, by decide, by decide, by decide, by decide⟩,
   ⟨by decide, by decide, by decide, by decide, by decide, by decide⟩⟩

/-- EncodingsRoundTrip: both sides of each equivalence at its ends. -/
theorem test_witness_encodings : encode .nop2 = some 0b10 ∧ encode .crop = none
    ∧ decodeTableWord 8 259 = some .unmerge ∧ decodeTableWord 8 255 = none
    ∧ decodeBytes [3, 0] = .ok .unmerge
    ∧ GridId.ofSelect 0b10 = some .go ∧ GridId.ofSelect 0b11 = none
    ∧ Reg.ofIndex 10 = some .oMode ∧ Reg.ofIndex 11 = none :=
  ⟨rfl, rfl, rfl, rfl, rfl, rfl, rfl, rfl, rfl⟩

/-- PackIsABijection, ChannelRoundTrip, MergedChannelStaysClose. -/
theorem test_witness_channel : ∃ t u, exec (.pack 15 0) State.reset = .next t ∧ t.result = .byte 0xF0
    ∧ exec (.mergeCh 0x0F 0xF0) State.reset = .next u ∧ u.result = .byte 0x0F :=
  ⟨_, _, rfl, rfl, rfl, rfl⟩

/-- PayloadSelection: outside in x, outside in y, inside at the last cell. -/
theorem test_witness_payload : (¬ ((nines 2 2).x < (nines 2 2).bW ∧ (nines 2 2).y < (nines 2 2).bH))
    ∧ (¬ ((nines 1 3).x < (nines 1 3).bW ∧ (nines 1 3).y < (nines 1 3).bH))
    ∧ (nines 1 2).x < (nines 1 2).bW ∧ (nines 1 2).y < (nines 1 2).bH
    ∧ (nines 1 2).bW ≤ (nines 1 2).params.maxW ∧ (nines 1 2).bH ≤ (nines 1 2).params.maxH := by
  decide

/-- PayloadSelectionFaults: a position past MAXW, and one past MAXH. -/
theorem test_witness_payload_faults :
    (let s := { State.reset with params := ⟨4, 3, 3⟩, bW := 5, bH := 1, x := 3 }
     s.x < s.bW ∧ s.y < s.bH ∧ s.params.maxW ≤ s.x)
    ∧ (let s := { State.reset with params := ⟨4, 3, 3⟩, bW := 1, bH := 5, y := 3 }
       s.x < s.bW ∧ s.y < s.bH ∧ s.params.maxH ≤ s.y) := by decide

/-- BlackTest: both cases; PixelRoundTrip with a lane of 16 and with none above 15. -/
theorem test_witness_black : (⟨0, 1, 0⟩ : Pixel).g ≠ 0
    ∧ ∃ t u, exec (.mergePx ⟨1, 2, 3⟩ ⟨16, 15, 0⟩) State.reset = .next t
      ∧ t.result = .pixel ⟨1, 0, 0⟩ ∧ exec (.unmergePx ⟨1, 0, 0⟩) t = .next u
      ∧ u.result = .pixel ⟨16, 0, 0⟩ :=
  ⟨by decide, _, _, rfl, rfl, rfl, rfl⟩
theorem test_witness_black_zero : ∃ t u, exec (.mergePx ⟨1, 2, 3⟩ ⟨15, 15, 15⟩) State.reset = .next t
    ∧ t.result = .pixel ⟨0, 0, 0⟩ ∧ exec (.unmergePx ⟨0, 0, 0⟩) t = .next u
    ∧ u.result = .pixel ⟨0, 0, 0⟩ := ⟨_, _, rfl, rfl, rfl, rfl⟩

/-- SizeCheck: equality fits; one more on either axis does not. -/
theorem test_witness_sizes : (sizes 10 10 10 10).bW ≤ (sizes 10 10 10 10).aW
    ∧ (sizes 10 10 11 9).aW < (sizes 10 10 11 9).bW
    ∧ (sizes 10 10 9 11).aH < (sizes 10 10 9 11).bH := by decide

/-- ScanAdvance at the largest legal grid's last coordinate, at the end of a column and inside one;
BoundUpdate at the last coordinate that exists. -/
theorem test_witness_scan :
    (let s := { State.reset with aW := 65535, aH := 65535, x := 65534, y := 65534 }
     s.params.legal = true ∧ s.x < s.aW ∧ s.aW ≤ s.params.maxW ∧ s.y < s.aH ∧ s.aH ≤ s.params.maxH
     ∧ s.x = s.aW - 1 ∧ s.y = s.aH - 1 ∧ s.x < s.params.maxW ∧ s.y < s.params.maxH)
    ∧ (let s := mergingAt 0 1
       s.params.legal = true ∧ s.x < s.aW ∧ s.aW ≤ s.params.maxW ∧ s.y < s.aH ∧ s.aH ≤ s.params.maxH
       ∧ s.x ≠ s.aW - 1 ∧ s.y = s.aH - 1)
    ∧ (let s := mergingAt 1 0
       s.x < s.aW ∧ s.aW ≤ s.params.maxW ∧ s.y < s.aH ∧ s.aH ≤ s.params.maxH ∧ s.y ≠ s.aH - 1) := by
  decide

/-- MergeStartStep, UnmergeStartStep: the three statuses, a payload that fits and one that does not,
and the smallest and the largest grid. -/
theorem test_witness_starts : idleMerge.status ≠ .busy ∧ doneUnmerge.status ≠ .busy
    ∧ failed.status ≠ .busy
    ∧ (1 ≤ failed.aW ∧ failed.aW ≤ failed.params.maxW) ∧ (1 ≤ failed.aH ∧ failed.aH ≤ failed.params.maxH)
    ∧ (failed.bW ≤ failed.params.maxW ∧ failed.bH ≤ failed.params.maxH) ∧ failed.aW < failed.bW
    ∧ (let s := sizes 65535 1 65535 1
       s.status ≠ .busy ∧ (1 ≤ s.aW ∧ s.aW ≤ s.params.maxW) ∧ (1 ≤ s.aH ∧ s.aH ≤ s.params.maxH)
       ∧ (s.bW ≤ s.params.maxW ∧ s.bH ≤ s.params.maxH) ∧ s.bW ≤ s.aW ∧ s.bH ≤ s.aH) := by decide

/-- StartInBusyIsIgnored; IllegalGeometryIsRefused, legal and illegal on the last value. -/
theorem test_witness_refused_starts : (mergingAt 0 0).status = .busy ∧ State.reset.status ≠ .busy
    ∧ State.reset.aW = 0
    ∧ (let s := { State.reset with params := ⟨4, 3, 3⟩, aW := 3, aH := 3, bW := 4 }
       s.status ≠ .busy ∧ s.params.maxW < s.bW ∧ ¬ (s.aW = 0 ∨ s.params.maxW < s.aW)) := by decide

/-- OperationsKeepTheInputs, EveryStepKeepsTheInvariant, OnlyAnOversizePayloadRaises (both ways ERR
can be 1 after a step). -/
theorem test_witness_steps : (∃ t, exec .merge idleMerge = .next t) ∧ (∃ t, step (mergingAt 1 1) = .next t)
    ∧ (∃ t, step failed = .next t ∧ t.err = .sizeError)
    ∧ (∃ t, step (withEvents (sizes 10 10 11 9) [.bus (.wr 0 1)]) = .next t ∧ t.err = .sizeError) :=
  ⟨⟨_, rfl⟩, ⟨_, rfl⟩, ⟨_, rfl, rfl⟩, ⟨_, rfl, rfl⟩⟩

/-- StepRunsTheCommand and StepTakesTheNextEvent. -/
theorem test_witness_events : (withEvents idleMerge [.bus (.wr 0 (0b01#2).toNat)]).pending
      = .bus (.wr 0 (0b01#2).toNat) :: []
    ∧ decodeTableWord 8 0b00000001 = some .merge
    ∧ idleMerge.pending = [] ∧ (withEvents idleMerge [.coreTurn]).pending = .coreTurn :: []
    ∧ (withEvents idleMerge [.reset, .bus (.rd 1)]).pending = .reset :: [.bus (.rd 1)] :=
  ⟨rfl, rfl, rfl, rfl, rfl⟩

/-- CoreIsQuiescent in IDLE, DONE and ERROR. -/
theorem test_witness_quiet : idleMerge.status ≠ .busy ∧ idleMerge.pending = []
    ∧ doneUnmerge.status ≠ .busy ∧ doneUnmerge.pending = []
    ∧ failed.status ≠ .busy ∧ failed.pending = [] := by decide

/-- MergePixelStep, FinishEndsTheRun, ScanOrder, RunsTerminate: the states of
`test_witness_good_merging` at the last coordinate, at the end of a column and at the start. -/
theorem test_witness_merging :
    (let s := mergingAt 1 1
     s.pending = [] ∧ s.status = .busy ∧ s.opr = .merge ∧ s.x = s.aW - 1 ∧ s.y = s.aH - 1)
    ∧ (let s := mergingAt 0 1
       s.pending = [] ∧ s.status = .busy ∧ s.opr = .merge ∧ s.x ≠ s.aW - 1 ∧ s.y = s.aH - 1)
    ∧ (let s := mergingAt 0 0
       s.pending = [] ∧ s.status = .busy ∧ s.opr = .merge ∧ s.y ≠ s.aH - 1 ∧ s.x = 0 ∧ s.y = 0
       ∧ stepsLeft s = 4 ∧ 3 < s.aW * s.aH) := by decide

/-- UnmergePixelStep, FinishEndsTheRun, PixelStepsAreTheirOperations: the states of
`test_witness_good_unmerging`. -/
theorem test_witness_unmerging :
    (let s := unmergingAt 1 2 2 1
     s.pending = [] ∧ s.status = .busy ∧ s.opr = .unmerge ∧ s.x = s.aW - 1 ∧ s.y = s.aH - 1)
    ∧ (let s := unmergingAt 0 2 1 1
       s.pending = [] ∧ s.status = .busy ∧ s.opr = .unmerge ∧ s.x ≠ s.aW - 1 ∧ s.y = s.aH - 1
       ∧ (s.pixelAt .ga s.x s.y).r &&& 0x0F#8 ≠ 0)
    ∧ (let s := unmergingAt 0 0 1 1
       s.opr = .unmerge ∧ s.y ≠ s.aH - 1 ∧ (s.pixelAt .ga s.x s.y).r &&& 0x0F#8 = 0
       ∧ (s.pixelAt .ga s.x s.y).g &&& 0x0F#8 = 0 ∧ (s.pixelAt .ga s.x s.y).b &&& 0x0F#8 = 0) := by
  decide
theorem test_witness_pixel_operations : (∃ t, step (mergingAt 0 1) = .next t)
    ∧ (∃ t, step (unmergingAt 0 2 1 1) = .next t) := ⟨⟨_, rfl⟩, ⟨_, rfl⟩⟩

/-- PixelStepWrites at the last coordinate that exists, and with a lit and an unlit pixel. -/
theorem test_witness_pixel_step_writes :
    (let s := { State.reset with x := 65534, y := 65534 }
     s.params.legal = true ∧ s.x < s.params.maxW ∧ s.y < s.params.maxH)
    ∧ ((unmergingAt 0 2 1 1).params.legal = true
      ∧ (unmergingAt 0 2 1 1).x < (unmergingAt 0 2 1 1).params.maxW
      ∧ (unmergingAt 0 2 1 1).y < (unmergingAt 0 2 1 1).params.maxH
      ∧ ((unmergingAt 0 2 1 1).pixelAt .ga 0 2).r &&& 0x0F#8 ≠ 0)
    ∧ ((unmergingAt 0 0 1 1).x < (unmergingAt 0 0 1 1).params.maxW
      ∧ (unmergingAt 0 0 1 1).y < (unmergingAt 0 0 1 1).params.maxH
      ∧ ¬ litAt (unmergingAt 0 0 1 1) 0 0) := by
  unfold litAt
  decide

/-- WaitEndsOutsideBusy: the good states of `test_witness_good_ended` and
`test_witness_good_merging`, in DONE, ERROR and BUSY. -/
theorem test_witness_wait : doneUnmerge.status ≠ .busy ∧ failed.status ≠ .busy
    ∧ (mergingAt 0 0).status = .busy ∧ stepsLeft (mergingAt 1 1) = 1 := by decide

/-- MemoryFormIsCanonical, PixelWritesCommute, PixelWriteReplacesOneCell. -/
theorem test_witness_memory : idleMerge.ga.wf = true
    ∧ (idleMerge.ga.write 0 0 ⟨1, 1, 1⟩).wf = true
    ∧ ¬ ((0 : Nat) = 0 ∧ (1 : Nat) = 2)
    ∧ ¬ (GridId.gb = GridId.ga ∧ (0 : Nat) = 0 ∧ (0 : Nat) = 0)
    ∧ Memory.wf ⟨0, [⟨1, 0, ⟨0, 0, 0⟩⟩, ⟨0, 1, ⟨0, 0, 0⟩⟩]⟩ = false := by decide

/-- RegisterAccess: each clause at a boundary value. -/
theorem test_witness_register_access : 10 ∈ [1, 2, 8, 9, 10]
    ∧ Transaction.registerWriteFits Params.suggested 2 1
    ∧ Transaction.registerWriteFits Params.suggested 0 4 = false
    ∧ Transaction.registerWriteFits Params.suggested 5 256 = false
    ∧ Transaction.registerWriteFits Params.suggested 7 65535
    ∧ (mergingAt 0 0).status = .busy := by decide
theorem test_witness_register_write : ∃ t, transact (.wr 7 65535) idleMerge = .next t := ⟨_, rfl⟩

/-- InputRegisterWrites, RegisterReads: the largest values, outside BUSY. -/
theorem test_witness_input_writes : idleMerge.status ≠ .busy
    ∧ 65535 < 2 ^ idleMerge.params.dimW ∧ 255 < 256 := by decide

/-- GridPort: a write in IDLE at the last cell, and GO read in DONE at the window's last cell. -/
theorem test_witness_grid_port : (let s := idleMerge
      65534 < s.params.maxW ∧ 65534 < s.params.maxH ∧ s.status ≠ .busy ∧ s.status = .idle)
    ∧ (let s := doneUnmerge
       1 < s.params.maxW ∧ 0 < s.params.maxH ∧ s.status = .done ∧ 1 < s.oW ∧ 0 < s.oH) := by decide

/-- InputsAreFrozenInBusy, OutputsAreDrawsInBusy: a run in progress, the largest values. -/
theorem test_witness_busy : (mergingAt 0 0).status = .busy
    ∧ 65535 < 2 ^ (mergingAt 0 0).params.dimW ∧ 65534 < (mergingAt 0 0).params.maxW := by decide

/-- CellsOutsideTheCropAreDraws: just right of the window, and just below it. -/
theorem test_witness_outside_crop : doneUnmerge.status = .done ∧ doneUnmerge.oW ≤ 2 ∧ doneUnmerge.oH ≤ 1
    ∧ 2 < doneUnmerge.params.maxW ∧ 1 < doneUnmerge.params.maxH := by decide

/-- GridPortRefusals: the first coordinate out of range on each axis. -/
theorem test_witness_out_of_range : idleMerge.params.maxW ≤ 65535 ∧ idleMerge.params.maxH ≤ 65535 := by
  decide

/-- ResetOutsideARun and ResetAbandonsARun. -/
theorem test_witness_resets : GoodState (withEvents doneUnmerge [.reset])
    ∧ (withEvents doneUnmerge [.reset]).status ≠ .busy
    ∧ (withEvents doneUnmerge [.reset]).pending = .reset :: []
    ∧ GoodState (withEvents (mergingAt 0 1) [.reset])
    ∧ (withEvents (mergingAt 0 1) [.reset]).status = .busy
    ∧ (withEvents (mergingAt 0 1) [.reset]).pending = .reset :: [] :=
  ⟨⟨by decide, by decide, by decide, by decide, by decide, by decide⟩, by decide, rfl,
   ⟨by decide, by decide, by decide, by decide, by decide, by decide⟩, rfl, rfl⟩

/-- GoodStatesStepOn: the host keeps its duties with no transaction waiting. -/
theorem test_witness_duties : hostKeepsDuties (mergingAt 0 0) := fun _ _ h => nomatch h
/-- And with a START waiting, legal and outside BUSY. -/
theorem test_witness_duties_start : hostKeepsDuties (withEvents idleMerge [.bus (.wr 0 1)]) := by
  intro t rest h
  cases h
  refine ⟨by decide, fun _ _ h => ?_, fun _ _ _ _ h => ?_, fun _ _ => by decide, fun h => ?_⟩
  · cases h
    exact fun _ => .inl (by decide)
  · cases h
  · exact absurd h (by decide)

/-- A 1×1 grid about to be merged or unmerged. -/
def tinyWith (w : Nat) : State := withEvents tiny [.bus (.wr 0 w)]

/-- MergeRunResult with both clauses, UnmergeRunResult. -/
theorem test_witness_runs : GoodState (tinyWith 1) ∧ GoodState (tinyWith 3)
    ∧ (tinyWith 1).pending = [.bus (.wr 0 1)] ∧ (tinyWith 3).pending = [.bus (.wr 0 3)]
    ∧ (tinyWith 1).status ≠ .busy ∧ legalGeometry .merge (tinyWith 1) = true
    ∧ legalGeometry .unmerge (tinyWith 3) = true ∧ (tinyWith 1).bW ≤ (tinyWith 1).aW
    ∧ (tinyWith 1).bH ≤ (tinyWith 1).aH :=
  ⟨⟨by decide, by decide, by decide, by decide, by decide, by decide⟩,
   ⟨by decide, by decide, by decide, by decide, by decide, by decide⟩, rfl, rfl, by decide,
   by decide, by decide, by decide, by decide⟩
theorem test_witness_oversize_run : GoodState (withEvents { tiny with bH := 2 } [.bus (.wr 0 1)])
    ∧ legalGeometry .merge { tiny with bH := 2 } = true ∧ tiny.aH < ({ tiny with bH := 2 } : State).bH :=
  ⟨⟨by decide, by decide, by decide, by decide, by decide, by decide⟩, by decide, by decide⟩

/-- BlackImageCropsToOnePixel: U2, an image of multiples of 16. -/
theorem test_witness_black_image :
    (let s := withEvents { tiny with ga := ⟨0, [⟨0, 0, ⟨240, 240, 240⟩⟩]⟩ } [.bus (.wr 0 3)]
     GoodState s ∧ s.pending = [.bus (.wr 0 3)] ∧ s.status ≠ .busy ∧ legalGeometry .unmerge s = true
     ∧ ∀ x y, x < s.aW → y < s.aH → ¬ litAt s x y) := by
  refine ⟨⟨by decide, by decide, by decide, by decide, by decide, by decide⟩, rfl, by decide,
    by decide, fun x y hx hy => ?_⟩
  obtain rfl := Nat.lt_one_iff.mp hx
  obtain rfl := Nat.lt_one_iff.mp hy
  unfold litAt
  decide

/-- RoundTrip: M2 merged, copied out and unmerged. -/
theorem test_witness_round_trip : ∃ m c r, runSteps (1 + tiny.aW * tiny.aH) (tinyWith 1) = .next m
    ∧ copyOut m = .next c
    ∧ runSteps (1 + tiny.aW * tiny.aH) { c with pending := [.bus (.wr 0 3)] } = .next r :=
  ⟨_, _, _, rfl, rfl, rfl⟩

/-- RunsAreStateless: two machines with the same operands and different pasts, for MERGE and for
UNMERGE, whose runs both give a next state. -/
def past (w : Nat) : State :=
  { tinyWith w with status := .done, oW := 1, oH := 1, oMode := 9, x := 7, boundX := 3, opr := .unmerge }
theorem test_witness_past : GoodState (past 1) ∧ GoodState (past 3) :=
  ⟨⟨by decide, by decide, by decide, by decide, by decide, by decide⟩,
   ⟨by decide, by decide, by decide, by decide, by decide, by decide⟩⟩
theorem test_witness_stateless : (past 1).status ≠ .busy ∧ (past 1).pending = [.bus (.wr 0 1)]
    ∧ (past 3).pending = [.bus (.wr 0 3)] ∧ (past 1).params = (tinyWith 1).params
    ∧ (past 1).aW = (tinyWith 1).aW ∧ (past 1).aH = (tinyWith 1).aH
    ∧ (past 1).aMode = (tinyWith 1).aMode ∧ (past 1).bW = (tinyWith 1).bW
    ∧ (past 1).bH = (tinyWith 1).bH ∧ (past 1).ga = (tinyWith 1).ga
    ∧ (past 1).gb = (tinyWith 1).gb ∧ (past 3).ga = (tinyWith 3).ga := by decide
theorem test_witness_stateless_runs : ∃ t t' u u', runSteps 2 (tinyWith 1) = .next t
    ∧ runSteps 2 (past 1) = .next t' ∧ runSteps 2 (tinyWith 3) = .next u
    ∧ runSteps 2 (past 3) = .next u' := ⟨_, _, _, _, rfl, rfl, rfl, rfl⟩

end Sys2Proof.Tests
end

/-! ### Reset -/

namespace Sys2Proof.Machine

/-- After a reset every cell of every memory reads as its draw (10_state.md R32). -/
@[simp] theorem pixelAt_afterReset (p : Params) (n : Nat) (id : GridId) (x y : Nat) :
    (State.afterReset p n).pixelAt id x y = Config.unwrittenPixel n id x y := by
  cases id <;> rfl

/-- Settles O45: the registers by the definition of the reset state, the cells by
`pixelAt_afterReset`. -/
theorem resetValues : Obligations.ResetValues :=
  ⟨⟨rfl, rfl⟩, ⟨rfl, rfl, rfl, rfl, rfl⟩, ⟨rfl, rfl, rfl⟩, ⟨rfl, rfl⟩, ⟨rfl, rfl⟩, rfl,
    pixelAt_afterReset Params.suggested 0⟩

end Sys2Proof.Machine

/-! ### The crop bound while the scan grows -/

namespace Sys2Proof.Safety

/-- A grid without a lit pixel has the bound (1, 1) (44_unmerge.md R110). -/
theorem IsCropBound_of_dark {nb : Nat → Nat → Prop} {w h : Nat}
    (hno : ∀ x y, x < w → y < h → ¬ nb x y) : IsCropBound nb w h 1 1 :=
  ⟨fun _ => ⟨rfl, rfl⟩, fun xs ys hxs hys hn _ _ => absurd hn (hno xs ys hxs hys)⟩

/-- A lit pixel that comes last in scan order among the lit ones fixes the bound (44_unmerge.md
R107, R110). -/
theorem IsCropBound_of_last {nb : Nat → Nat → Prop} {w h X Y : Nat} (hX : X < w) (hY : Y < h)
    (hn : nb X Y) (hlast : ∀ x y, x < w → y < h → nb x y → x < X ∨ (x = X ∧ y ≤ Y)) :
    IsCropBound nb w h (X + 1) (Y + 1) := by
  refine ⟨fun hno => absurd hn (hno X Y hX hY), fun xs ys hxs hys hn' hmaxX hmaxY => ?_⟩
  have hX' : X ≤ xs := hmaxX X Y hX hY hn
  have hle := hlast xs ys hxs hys hn'
  obtain rfl : xs = X := by omega
  have hY' : Y ≤ ys := hmaxY Y hY hn
  omega

/-- The bound of a grid that is not empty lies inside the grid (44_unmerge.md R114). -/
theorem IsCropBound_le {nb : Nat → Nat → Prop} {w h a b : Nat} (hw : 1 ≤ w) (hh : 1 ≤ h)
    (hb : IsCropBound nb w h a b) : a ≤ w ∧ b ≤ h := by
  by_cases hno : ∀ x y, x < w → y < h → ¬ nb x y
  · obtain ⟨rfl, rfl⟩ := hb.1 hno
    exact ⟨hw, hh⟩
  · simp only [not_forall, not_not] at hno
    obtain ⟨x, y, hx, hy, hn⟩ := hno
    obtain ⟨xs, ys, hxs, hys, hn', hmaxX, hmaxY⟩ := cropCorner_exists nb w h x y hx hy hn
    obtain ⟨rfl, rfl⟩ := hb.2 xs ys hxs hys hn' hmaxX hmaxY
    exact ⟨hxs, hys⟩

end Sys2Proof.Safety

/-! ### A whole run, from its start step to DONE -/

namespace Sys2Proof.Machine

open Sys2Proof.Safety

/-- The pixel a run of `op` on the operands of `s` writes at (x, y) (43_merge.md R99, 44_unmerge.md
R106). -/
def outputAt (op : Op) (s : State) (x y : Nat) : Pixel :=
  match op with
  | .merge => stegoPixel (s.pixelAt .ga x y) (payloadAt s x y)
  | .unmerge => recoveredPixel (s.pixelAt .ga x y)

/-- `s₀` with the fields a pixel step may change taken from `s` (42_sequencer.md R92). -/
abbrev withRunFields (s₀ s : State) : State :=
  { s₀ with
    x := s.x, y := s.y, boundX := s.boundX, boundY := s.boundY, go := s.go, result := s.result
    status := s.status, oW := s.oW, oH := s.oH }

/-- What a run that began in `s₀` has done when it stands in `s` and has passed exactly the
coordinates before (X, Y). -/
structure Progress (s₀ s : State) (X Y : Nat) : Prop where
  frame : s = withRunFields s₀ s
  pixels : ∀ x y, s.pixelAt .go x y =
    if y < s₀.aH ∧ before x y X Y = true then outputAt s₀.opr s₀ x y else s₀.pixelAt .go x y
  bound : s₀.opr = .unmerge → IsCropBound (fun x y => litAt s₀ x y ∧ before x y X Y = true)
    s₀.aW s₀.aH s.boundX s.boundY

/-- `s₀` is the state a START step leaves: legal, at the first coordinate, no event waiting. -/
structure RunStart (s₀ : State) : Prop where
  params : s₀.params.legal = true
  geometry : legalGeometry s₀.opr s₀ = true
  busy : s₀.status = .busy
  quiet : s₀.pending = []
  origin : s₀.x = 0 ∧ s₀.y = 0
  bound : s₀.opr = .unmerge → s₀.boundX = 1 ∧ s₀.boundY = 1

/-- The run that began in `s₀` stands in `s`, about to do the pixel step at its scan position. -/
structure Scanning (s₀ s : State) : Prop where
  progress : Progress s₀ s s.x s.y
  busy : s.status = .busy
  inGrid : s.x < s₀.aW ∧ s.y < s₀.aH
  size : s.oW = s₀.oW ∧ s.oH = s₀.oH

/-- The end of a column is the start of the next (42_sequencer.md R90). -/
theorem before_columnEnd {x y X h : Nat} (hy : y < h) :
    before x y X h = true ↔ before x y (X + 1) 0 = true := by
  simp only [before_iff]; omega

/-- Passing one coordinate more. -/
theorem before_succ (x y X Y : Nat) :
    before x y X (Y + 1) = true ↔ before x y X Y = true ∨ (x = X ∧ y = Y) := by
  simp only [before_iff]; omega

/-- The number of a coordinate in scan order is the last one exactly at the last coordinate. -/
theorem scanIndex_last_iff {x y w h : Nat} (hx : x < w) (hy : y < h) :
    x * h + y + 1 = w * h ↔ x + 1 = w ∧ y + 1 = h := by
  obtain ⟨d, rfl⟩ : ∃ d, w = x + 1 + d := ⟨w - (x + 1), by omega⟩
  have hw : (x + 1 + d) * h = x * h + h + d * h := by ring
  rw [hw]
  rcases Nat.eq_zero_or_pos d with rfl | hd
  · omega
  · have : h ≤ d * h := Nat.le_mul_of_pos_left h hd
    omega

namespace Progress

variable {s₀ s : State} {X Y : Nat}

/-! A run never changes its parameters, its input size, OPR or the events that wait. -/

theorem params (h : Progress s₀ s X Y) : s.params = s₀.params := by rw [h.frame]
theorem aW (h : Progress s₀ s X Y) : s.aW = s₀.aW := by rw [h.frame]
theorem aH (h : Progress s₀ s X Y) : s.aH = s₀.aH := by rw [h.frame]
theorem opr (h : Progress s₀ s X Y) : s.opr = s₀.opr := by rw [h.frame]
theorem pending (h : Progress s₀ s X Y) : s.pending = s₀.pending := by rw [h.frame]

theorem columnEnd (h : Progress s₀ s X s₀.aH) : Progress s₀ s (X + 1) 0 where
  frame := h.frame
  pixels x y := by
    rw [h.pixels]
    exact if_congr (and_congr_right before_columnEnd) rfl rfl
  bound ho := IsCropBound_congr _ _ _ _ _ _
    (fun _ _ _ hy => and_congr_right fun _ => before_columnEnd hy) (h.bound ho)

/-- The operands are those of the start: a run never changes them (43_merge.md R99, 44_unmerge.md
R106). -/
theorem outputPixel_eq (h : Progress s₀ s X Y) : outputPixel s = outputAt s₀.opr s₀ s.x s.y := by
  rw [h.frame]
  unfold outputPixel outputAt
  cases s₀.opr <;> rfl

theorem litAt_iff (h : Progress s₀ s X Y) (x y : Nat) : litAt s x y ↔ litAt s₀ x y := by
  rw [h.frame]; rfl

end Progress

/-- A lit pixel of an UNMERGE run moves the bound one past it (44_unmerge.md R107). -/
theorem boundAfter_lit {s : State} (ho : s.opr = .unmerge) (hl : litAt s s.x s.y) :
    boundAfter s = (s.narrow (s.x + 1), s.narrow (s.y + 1)) :=
  if_pos ⟨ho, (isNonblack_unmergePixel s s.x s.y).mpr hl⟩

/-- A black pixel leaves the bound (44_unmerge.md R107). -/
theorem boundAfter_dark {s : State} (hl : ¬ litAt s s.x s.y) :
    boundAfter s = (s.boundX, s.boundY) :=
  if_neg fun hn => hl ((isNonblack_unmergePixel s s.x s.y).mp hn.2)

namespace Scanning

variable {s₀ s : State}

/-- The scan begins with nothing passed. -/
theorem init (h : RunStart s₀) : Scanning s₀ s₀ := by
  obtain ⟨hx, hy⟩ := h.origin
  obtain ⟨⟨hw, -⟩, ⟨hh, -⟩, -⟩ := (legalGeometry_iff _ _).mp h.geometry
  have hnone : ∀ x y, ¬ before x y s₀.x s₀.y = true := fun x y => by
    rw [before_iff, hx, hy]; omega
  refine ⟨⟨rfl, fun x y => (if_neg fun hb => hnone x y hb.2).symm, fun ho => ?_⟩, h.busy,
    ⟨by omega, by omega⟩, rfl, rfl⟩
  rw [(h.bound ho).1, (h.bound ho).2]
  exact IsCropBound_of_dark fun x y _ _ hb => hnone x y hb.2

/-- The cell of the scan position exists and neither increment wraps. -/
theorem position_fits (h₀ : RunStart s₀) (h : Scanning s₀ s) :
    s.params.inRange s.x s.y = true ∧ s.narrow (s.x + 1) = s.x + 1
    ∧ s.narrow (s.y + 1) = s.y + 1 := by
  have hp := h.progress.params
  obtain ⟨-, ⟨-, hmaxW⟩, -, hmaxH⟩ := (params_legal_iff _).mp h₀.params
  obtain ⟨⟨-, haW⟩, ⟨-, haH⟩, -⟩ := (legalGeometry_iff _ _).mp h₀.geometry
  obtain ⟨hx, hy⟩ := h.inGrid
  refine ⟨(inRange_iff _ _ _).mpr ?_, narrow_of_lt _ _ ?_, narrow_of_lt _ _ ?_⟩ <;> rw [hp] <;> omega

/-- One pixel step of the run (42_sequencer.md R92). -/
theorem step_eq (h₀ : RunStart s₀) (h : Scanning s₀ s) : step s = .next (afterPixel s) := by
  have hq : s.pending = [] := h.progress.pending.trans h₀.quiet
  rw [step_of_pending_nil s hq, coreStep_afterPixel s h.busy (h.position_fits h₀).1]

/-- The bound after a pixel step is that of one coordinate more (44_unmerge.md R107). -/
theorem bound_afterPixel (h₀ : RunStart s₀) (h : Scanning s₀ s) (ho : s₀.opr = .unmerge) :
    IsCropBound (fun x y => litAt s₀ x y ∧ before x y s.x (s.y + 1) = true) s₀.aW s₀.aH
      (boundAfter s).1 (boundAfter s).2 := by
  obtain ⟨-, hnx, hny⟩ := h.position_fits h₀
  have hopr : s.opr = .unmerge := h.progress.opr.trans ho
  by_cases hl : litAt s s.x s.y
  · rw [boundAfter_lit hopr hl, hnx, hny]
    refine IsCropBound_of_last h.inGrid.1 h.inGrid.2
      ⟨(h.progress.litAt_iff _ _).mp hl, (before_succ _ _ _ _).mpr (.inr ⟨rfl, rfl⟩)⟩
      fun x y _ _ hxy => ?_
    have := (before_iff _ _ _ _).mp hxy.2
    omega
  · rw [boundAfter_dark hl]
    refine IsCropBound_congr _ _ _ _ _ _ (fun x y _ _ => and_congr_right fun hlit => ?_)
      (h.progress.bound ho)
    rw [before_succ, or_iff_left]
    rintro ⟨rfl, rfl⟩
    exact hl ((h.progress.litAt_iff _ _).mpr hlit)

/-- A pixel step passes the coordinate it stands at. -/
theorem progress_afterPixel (h₀ : RunStart s₀) (h : Scanning s₀ s) :
    Progress s₀ (afterPixel s) s.x (s.y + 1) where
  frame := calc
    afterPixel s = withRunFields s (afterPixel s) := rfl
    _ = withRunFields (withRunFields s₀ s) (afterPixel s) :=
      congrArg (withRunFields · (afterPixel s)) h.progress.frame
    _ = withRunFields s₀ (afterPixel s) := rfl
  pixels x y := by
    rw [afterPixel_pixelAt_go, h.progress.outputPixel_eq, h.progress.pixels]
    by_cases he : x = s.x ∧ y = s.y
    · obtain ⟨rfl, rfl⟩ := he
      rw [if_pos ⟨rfl, rfl⟩, if_pos ⟨h.inGrid.2, (before_succ _ _ _ _).mpr (.inr ⟨rfl, rfl⟩)⟩]
    · rw [if_neg he]
      simp only [before_succ, or_iff_left he]
  bound := h.bound_afterPixel h₀

/-- The scan position is the last coordinate of the grid of the start. -/
theorem isLast_iff_index (h : Scanning s₀ s) :
    isLast s = true ↔ s.x * s₀.aH + s.y + 1 = s₀.aW * s₀.aH := by
  have hw := h.progress.aW
  have hh := h.progress.aH
  rw [isLast_iff, scanIndex_last_iff h.inGrid.1 h.inGrid.2, hw, hh]

/-- A pixel step before the last coordinate: the scan stands one coordinate on (42_sequencer.md
R90, R91). -/
theorem scanning_afterPixel (h₀ : RunStart s₀) (h : Scanning s₀ s) (hl : isLast s = false) :
    Scanning s₀ (afterPixel s)
    ∧ (afterPixel s).x * s₀.aH + (afterPixel s).y = s.x * s₀.aH + s.y + 1 := by
  obtain ⟨-, hnx, hny⟩ := h.position_fits h₀
  have hw := h.progress.aW
  have hh := h.progress.aH
  have hprog := h.progress_afterPixel h₀
  have hbusy : (afterPixel s).status = .busy := by simp [afterPixel, hl, h.busy]
  have hsize : (afterPixel s).oW = s₀.oW ∧ (afterPixel s).oH = s₀.oH := by
    simp [afterPixel, hl, h.size]
  have hnotLast : ¬ (s.x + 1 = s.aW ∧ s.y + 1 = s.aH) := fun e => by
    simp [(isLast_iff s).mpr e] at hl
  obtain ⟨hx, hy⟩ := h.inGrid
  by_cases hr : s.y + 1 = s.aH
  · have hpos : (afterPixel s).x = s.x + 1 ∧ (afterPixel s).y = 0 := by
      simp [afterPixel, hl, (lastRow_iff s).mpr hr, hnx]
    rw [hr, hh] at hprog
    refine ⟨⟨?_, hbusy, ?_, hsize⟩, ?_⟩ <;> rw [hpos.1, hpos.2]
    · exact hprog.columnEnd
    · omega
    · rw [Nat.succ_mul]; omega
  · have hrow : lastRow s = false := by simpa [lastRow] using hr
    have hpos : (afterPixel s).x = s.x ∧ (afterPixel s).y = s.y + 1 := by
      simp [afterPixel, hl, hrow, hny]
    refine ⟨⟨?_, hbusy, ?_, hsize⟩, ?_⟩ <;> rw [hpos.1, hpos.2]
    · exact hprog
    · omega
    · omega

/-- The k-th pixel step of a run is at the k-th coordinate in scan order (42_sequencer.md R90). -/
theorem exists_of_lt (h₀ : RunStart s₀) (k : Nat) (hk : k < s₀.aW * s₀.aH) :
    ∃ s, runSteps k s₀ = .next s ∧ Scanning s₀ s ∧ s.x * s₀.aH + s.y = k := by
  induction k with
  | zero => exact ⟨s₀, rfl, init h₀, by simp [h₀.origin]⟩
  | succ k ih =>
    obtain ⟨s, hrun, hs, hidx⟩ := ih (by omega)
    have hl : isLast s = false := by
      rw [Bool.eq_false_iff, ne_eq, hs.isLast_iff_index]; omega
    obtain ⟨hs', hidx'⟩ := hs.scanning_afterPixel h₀ hl
    refine ⟨afterPixel s, ?_, hs', by omega⟩
    rw [runSteps_add k 1 s₀ s hrun, runSteps_succ 0 s _ (hs.step_eq h₀), runSteps_zero]

end Scanning

/-- A run ends in DONE after A_W * A_H pixel steps with every coordinate passed; an UNMERGE run
takes its bound as the size (42_sequencer.md R93, R94). -/
theorem RunStart.finishes {s₀ : State} (h₀ : RunStart s₀) :
    ∃ t, runSteps (s₀.aW * s₀.aH) s₀ = .next t ∧ t.status = .done ∧ Progress s₀ t s₀.aW 0
      ∧ (s₀.opr = .merge → t.oW = s₀.oW ∧ t.oH = s₀.oH)
      ∧ (s₀.opr = .unmerge → t.oW = t.boundX ∧ t.oH = t.boundY) := by
  obtain ⟨⟨hw, -⟩, ⟨hh, -⟩, -⟩ := (legalGeometry_iff _ _).mp h₀.geometry
  have hpos : 0 < s₀.aW * s₀.aH := Nat.mul_pos hw hh
  obtain ⟨s, hrun, hs, hidx⟩ := Scanning.exists_of_lt h₀ (s₀.aW * s₀.aH - 1) (by omega)
  have hl : isLast s = true := hs.isLast_iff_index.mpr (by omega)
  obtain ⟨hX, hY⟩ := (scanIndex_last_iff hs.inGrid.1 hs.inGrid.2).mp (hs.isLast_iff_index.mp hl)
  have hprog := hs.progress_afterPixel h₀
  rw [hY] at hprog
  have hopr := hs.progress.opr
  refine ⟨afterPixel s, ?_, by simp [afterPixel, hl], hX ▸ hprog.columnEnd, fun ho => ?_,
    fun ho => ?_⟩
  · rw [show s₀.aW * s₀.aH = s₀.aW * s₀.aH - 1 + 1 by omega, runSteps_add _ 1 s₀ s hrun,
      runSteps_succ 0 s _ (hs.step_eq h₀), runSteps_zero]
  · simp [afterPixel, hopr, ho, hs.size]
  · simp [afterPixel, hl, hopr, ho]

/-! ### From the host's command to the end of the run -/

/-- The value the host writes to CTRL to start a run (30_encoding.md R57, R70). -/
def startWord : Op → Nat
  | .merge => 1
  | .unmerge => 3

/-- The host's write of a START word is the start dispatch (30_encoding.md R57, 42_sequencer.md
R87). -/
theorem step_startWord {op : Op} {s : State} {rest : List HostEvent}
    (hp : s.pending = .bus (.wr 0 (startWord op)) :: rest) :
    step s = startCommand op { s with pending := rest } := by
  rw [step, nextEvent, hp]
  cases op
  · exact transact_command 1#2 { s with pending := rest }
  · exact transact_command 3#2 { s with pending := rest }

/-- The state in which an accepted START leaves a machine whose payload fits (43_merge.md R98,
44_unmerge.md R105). -/
def runBegin (op : Op) (s : State) : State :=
  { s with
    pending := [], opr := op, status := .busy, err := .none
    oW := s.aW, oH := s.aH, oMode := s.aMode, x := 0, y := 0
    boundX := if op = .unmerge then Config.boundInit else s.boundX
    boundY := if op = .unmerge then Config.boundInit else s.boundY }

/-- An accepted START whose payload fits begins a run (42_sequencer.md R87). -/
theorem step_runBegin {op : Op} {s : State} (hs : s.status ≠ .busy)
    (hp : s.pending = [.bus (.wr 0 (startWord op))]) (hg : legalGeometry op s = true)
    (hfit : op = .merge → sizeOk s = true) : step s = .next (runBegin op s) := by
  rw [step_startWord hp, startCommand_accepted op { s with pending := [] } hs hg]
  cases op with
  | merge => exact congrArg _ (mergeStart_fits _ (hfit rfl))
  | unmerge => rfl

/-- A payload that does not fit ends the launch in ERROR (43_merge.md R98, 60_exceptions.md R118). -/
theorem step_sizeError {s : State} (hs : s.status ≠ .busy)
    (hp : s.pending = [.bus (.wr 0 (startWord .merge))]) (hg : legalGeometry .merge s = true)
    (hsize : sizeOk s = false) :
    step s = .next { s with pending := [], opr := .merge, status := .error, err := .sizeError } := by
  rw [step_startWord hp, startCommand_accepted .merge { s with pending := [] } hs hg]
  exact congrArg _ (mergeStart_tooLarge _ hsize)

theorem runStart_runBegin {op : Op} {s : State} (hl : s.params.legal = true)
    (hg : legalGeometry op s = true) : RunStart (runBegin op s) :=
  ⟨hl, hg, rfl, rfl, ⟨rfl, rfl⟩, fun ho => ⟨if_pos ho, if_pos ho⟩⟩

/-- What a run of `op` on the operands of `s` leaves for the host to read in `t`: it speaks of no
register or memory that an earlier run wrote (10_state.md R29). -/
structure RunResult (op : Op) (s t : State) : Prop where
  status : t.status = .done
  err : t.err = .none
  mode : t.oMode = s.aMode
  mergeSize : op = .merge → t.oW = s.aW ∧ t.oH = s.aH
  unmergeSize : op = .unmerge → IsCropBound (litAt s) s.aW s.aH t.oW t.oH
  inGrid : t.oW ≤ s.aW ∧ t.oH ≤ s.aH
  pixels : ∀ x y, x < s.aW → y < s.aH → t.pixelAt .go x y = outputAt op s x y

/-- A launch with legal geometry and a payload that fits comes to its result (43_merge.md R100,
44_unmerge.md R110, R111). -/
theorem exists_runResult {op : Op} {s : State} (hl : s.params.legal = true)
    (hs : s.status ≠ .busy) (hp : s.pending = [.bus (.wr 0 (startWord op))])
    (hg : legalGeometry op s = true) (hfit : op = .merge → sizeOk s = true) :
    ∃ t, runSteps (1 + s.aW * s.aH) s = .next t ∧ RunResult op s t := by
  obtain ⟨t, hrun, hdone, hprog, hmerge, hunmerge⟩ := (runStart_runBegin hl hg).finishes
  have hpassed : ∀ x y, x < s.aW → before x y s.aW 0 = true := fun x y hx =>
    (before_iff _ _ _ _).mpr (.inl hx)
  have hbound : op = .unmerge → IsCropBound (litAt s) s.aW s.aH t.oW t.oH := fun ho => by
    rw [(hunmerge ho).1, (hunmerge ho).2]
    exact IsCropBound_congr _ _ _ _ _ _
      (fun x y hx _ => and_iff_left (hpassed x y hx)) (hprog.bound ho)
  have hgrid : t.oW ≤ s.aW ∧ t.oH ≤ s.aH := by
    obtain ⟨⟨hw, -⟩, ⟨hh, -⟩, -⟩ := (legalGeometry_iff _ _).mp hg
    cases op with
    | merge => exact ⟨(hmerge rfl).1.le, (hmerge rfl).2.le⟩
    | unmerge => exact IsCropBound_le hw hh (hbound rfl)
  refine ⟨t, ?_, hdone, by rw [hprog.frame]; rfl, by rw [hprog.frame]; rfl, hmerge, hbound, hgrid,
    fun x y hx hy => (hprog.pixels x y).trans (if_pos ⟨hy, hpassed x y hx⟩)⟩
  rw [Nat.add_comm, runSteps_succ _ s _ (step_runBegin hs hp hg hfit)]
  exact hrun

/-- Everything a launch that runs to its end leaves: a size error at once, or the result of the run
(43_merge.md R98, R100). -/
theorem runSteps_launch_cases {op : Op} {s t : State} (hl : s.params.legal = true)
    (hs : s.status ≠ .busy) (hp : s.pending = [.bus (.wr 0 (startWord op))])
    (hrun : runSteps (1 + s.aW * s.aH) s = .next t) :
    ((op = .merge ∧ sizeOk s = false) ∧ t.status = .error ∧ t.err = .sizeError)
    ∨ ((op = .merge → sizeOk s = true) ∧ RunResult op s t) := by
  obtain ⟨u, hstep, hrest⟩ := runSteps_succ_inv _ s t (by rw [← hrun, Nat.add_comm])
  have hg : legalGeometry op s = true := by
    rw [step_startWord hp] at hstep
    rcases startCommand_cases _ _ _ hstep with ⟨hb, -⟩ | ⟨-, hg, -⟩
    · exact absurd hb hs
    · exact hg
  by_cases hbad : op = .merge ∧ sizeOk s = false
  · obtain ⟨rfl, hsize⟩ := hbad
    rw [step_sizeError hs hp hg hsize] at hstep
    cases hstep
    rw [runSteps_quiet _ _ rfl (by simp)] at hrest
    cases hrest
    exact .inl ⟨⟨rfl, hsize⟩, rfl, rfl⟩
  · have hfit : op = .merge → sizeOk s = true := fun ho => by simpa [ho] using hbad
    obtain ⟨t', hrun', hres⟩ := exists_runResult hl hs hp hg hfit
    rw [hrun] at hrun'
    cases hrun'
    exact .inr ⟨hfit, hres⟩

/-! ### Statelessness -/

/-- Two machines hold the same operands of `op`: the payload counts for MERGE only (10_state.md
R29). -/
structure SameOperands (op : Op) (s s' : State) : Prop where
  aW : s.aW = s'.aW
  aH : s.aH = s'.aH
  aMode : s.aMode = s'.aMode
  payloadSize : op = .merge → s.bW = s'.bW ∧ s.bH = s'.bH
  input : ∀ x y, x < s.aW → y < s.aH → s.pixelAt .ga x y = s'.pixelAt .ga x y
  payload : op = .merge → ∀ x y, x < s.bW → y < s.bH → s.pixelAt .gb x y = s'.pixelAt .gb x y

namespace SameOperands

variable {op : Op} {s s' t t' : State}

theorem sizeOk_eq (h : SameOperands op s s') (ho : op = .merge) : sizeOk s = sizeOk s' := by
  simp only [sizeOk, h.aW, h.aH, h.payloadSize ho]

theorem payloadAt_eq (h : SameOperands op s s') (ho : op = .merge) (x y : Nat) :
    payloadAt s x y = payloadAt s' x y := by
  obtain ⟨hbW, hbH⟩ := h.payloadSize ho
  unfold payloadAt
  rw [← hbW, ← hbH]
  exact if_ctx_congr Iff.rfl (fun hp => h.payload ho x y hp.1 hp.2) fun _ => rfl

/-- The pixel a run writes at a coordinate of the grid is a function of the operands. -/
theorem outputAt_eq (h : SameOperands op s s') {x y : Nat} (hx : x < s.aW) (hy : y < s.aH) :
    outputAt op s x y = outputAt op s' x y := by
  cases op with
  | merge => rw [outputAt, outputAt, h.input x y hx hy, h.payloadAt_eq rfl]
  | unmerge => rw [outputAt, outputAt, h.input x y hx hy]

theorem litAt_iff (h : SameOperands op s s') {x y : Nat} (hx : x < s.aW) (hy : y < s.aH) :
    litAt s x y ↔ litAt s' x y := by
  rw [litAt, litAt, h.input x y hx hy]

/-- The size of the result is a function of the operands. -/
theorem size_eq (h : SameOperands op s s') (ht : RunResult op s t) (ht' : RunResult op s' t') :
    t.oW = t'.oW ∧ t.oH = t'.oH := by
  cases op with
  | merge =>
    obtain ⟨hw, hh⟩ := ht.mergeSize rfl
    obtain ⟨hw', hh'⟩ := ht'.mergeSize rfl
    exact ⟨hw.trans (h.aW.trans hw'.symm), hh.trans (h.aH.trans hh'.symm)⟩
  | unmerge =>
    have hb' := ht'.unmergeSize rfl
    rw [← h.aW, ← h.aH] at hb'
    exact IsCropBound_unique _ _ _ _ _ _ _
      (IsCropBound_congr _ _ _ _ _ _ (fun _ _ => h.litAt_iff) (ht.unmergeSize rfl)) hb'

/-- The window of the result is a function of the operands. -/
theorem pixel_eq (h : SameOperands op s s') (ht : RunResult op s t) (ht' : RunResult op s' t')
    {x y : Nat} (hx : x < t.oW) (hy : y < t.oH) : t.pixelAt .go x y = t'.pixelAt .go x y := by
  have hxA : x < s.aW := hx.trans_le ht.inGrid.1
  have hyA : y < s.aH := hy.trans_le ht.inGrid.2
  calc t.pixelAt .go x y = outputAt op s x y := ht.pixels x y hxA hyA
    _ = outputAt op s' x y := h.outputAt_eq hxA hyA
    _ = t'.pixelAt .go x y := (ht'.pixels x y (h.aW ▸ hxA) (h.aH ▸ hyA)).symm

/-- Two launches of one operation on the same operands end alike (10_state.md R29). -/
theorem launches_agree (h : SameOperands op s s') (hl : s.params.legal = true)
    (hl' : s'.params.legal = true) (hs : s.status ≠ .busy) (hs' : s'.status ≠ .busy)
    (hp : s.pending = [.bus (.wr 0 (startWord op))])
    (hp' : s'.pending = [.bus (.wr 0 (startWord op))])
    (hrun : runSteps (1 + s.aW * s.aH) s = .next t)
    (hrun' : runSteps (1 + s.aW * s.aH) s' = .next t') :
    t.status = t'.status ∧ t.err = t'.err
    ∧ (t.status = .done → t.oW = t'.oW ∧ t.oH = t'.oH ∧ t.oMode = t'.oMode
        ∧ ∀ x y, x < t.oW → y < t.oH → t.pixelAt .go x y = t'.pixelAt .go x y) := by
  rw [h.aW, h.aH] at hrun'
  rcases runSteps_launch_cases hl hs hp hrun with ⟨⟨ho, hbad⟩, hst, herr⟩ | ⟨hfit, ht⟩ <;>
    rcases runSteps_launch_cases hl' hs' hp' hrun' with ⟨⟨ho', hbad'⟩, hst', herr'⟩ | ⟨hfit', ht'⟩
  · exact ⟨hst.trans hst'.symm, herr.trans herr'.symm, fun hd => by simp [hst] at hd⟩
  · exact absurd (hfit' ho) (by rw [← h.sizeOk_eq ho, hbad]; decide)
  · exact absurd hbad' (by rw [← h.sizeOk_eq ho', hfit ho']; decide)
  · obtain ⟨hw, hh⟩ := h.size_eq ht ht'
    exact ⟨ht.status.trans ht'.status.symm, ht.err.trans ht'.err.symm, fun _ =>
      ⟨hw, hh, ht.mode.trans (h.aMode.trans ht'.mode.symm), fun _ _ => h.pixel_eq ht ht'⟩⟩

end SameOperands

/-- Settles O58: a run's result is a function of its operands (`RunResult`), so two machines with the
same operands end alike whatever earlier runs left in them. -/
theorem runsAreStateless : Obligations.RunsAreStateless := by
  unfold Obligations.RunsAreStateless
  rintro w s s' t t' hw ⟨hl, -⟩ ⟨hl', -⟩ hs hs' hp hp' - haW haH hmode hsize hga hgb hrun hrun'
  rcases hw with rfl | rfl
  · have hop : SameOperands .merge s s' :=
      ⟨haW, haH, hmode, fun _ => hsize rfl, hga, fun _ => hgb rfl⟩
    exact hop.launches_agree hl hl' hs hs' hp hp' hrun hrun'
  · have hop : SameOperands .unmerge s s' := ⟨haW, haH, hmode, nofun, hga, nofun⟩
    exact hop.launches_agree hl hl' hs hs' hp hp' hrun hrun'

end Sys2Proof.Machine

/-! ### A pixel write -/

namespace Sys2Proof.Machine

/-- A replaced grid memory is all that changes: the state with its three old memories put back is the
old state (20_memory.md R37, "no register"). -/
theorem State.setMemory_restore (s : State) (id : GridId) (m : Memory) :
    { s.setMemory id m with ga := s.ga, gb := s.gb, go := s.go } = s := by
  cases id <;> rfl

/-- Settles O34: the two reads are the two branches of `State.pixelAt_setPixel`; the registers are
untouched because a pixel write is one `State.setMemory`. -/
theorem pixelWriteReplacesOneCell : Obligations.PixelWriteReplacesOneCell := by
  unfold Obligations.PixelWriteReplacesOneCell
  intro s id x y p
  refine ⟨?same, fun id' a b hother => ?other, ?registers⟩
  case same => rw [State.pixelAt_setPixel, if_pos ⟨rfl, rfl, rfl⟩]
  case other => rw [State.pixelAt_setPixel, if_neg hother]
  case registers => exact s.setMemory_restore id _

end Sys2Proof.Machine

/-! ### Command words -/

namespace Sys2Proof

/-- Encoding undoes decoding: no two command words name one operation (30_encoding.md R58). -/
@[simp] theorem encode_decodeCommand (w : CommandWord) : encode (decodeCommand w) = some w := by
  revert w; decide

theorem decodeCommand_inj {v w : CommandWord} : decodeCommand v = decodeCommand w ↔ v = w := by
  refine ⟨fun h => Option.some.inj ?_, congrArg decodeCommand⟩
  rw [← encode_decodeCommand v, h, encode_decodeCommand]

/-- A match of the full mask holds for the one word that decodes as its match value does
(30_encoding.md R58). -/
theorem fullMask_eq_iff (w m : CommandWord) :
    w &&& 0b11#2 = m ↔ decodeCommand w = decodeCommand m := by
  rw [show 0b11#2 = BitVec.allOnes 2 from rfl, BitVec.and_allOnes, decodeCommand_inj]

/-- The mask of the START bit holds for the two words that leave it clear (30_encoding.md R57). -/
theorem startMask_eq_zero_iff (w : CommandWord) :
    w &&& 0b01#2 = 0b00#2 ↔ w = 0b00#2 ∨ w = 0b10#2 := by
  revert w; decide

/-- Settles O1: every form of the full mask is `fullMask_eq_iff` at its match value; the START mask
is a choice of two words, each read back through `decodeCommand_inj`. -/
theorem commandMapIsTotal : Obligations.CommandMapIsTotal := by
  unfold Obligations.CommandMapIsTotal
  refine ⟨⟨rfl, rfl, rfl, rfl⟩, fun w => ⟨fullMask_eq_iff w 0b01, fullMask_eq_iff w 0b11,
    fullMask_eq_iff w 0b00, fullMask_eq_iff w 0b10, ?startMask⟩⟩
  rw [startMask_eq_zero_iff, ← decodeCommand_inj, ← decodeCommand_inj]
  rfl

end Sys2Proof

/-! ### Pixel words -/

namespace Sys2Proof.Machine

/-- A pixel word is the number its three lanes make (30_encoding.md R60). -/
theorem toNat_eq_lanes (w : PixelWord) : w.toNat = (pixelOfWord w).r.toNat * 65536
    + (pixelOfWord w).g.toNat * 256 + (pixelOfWord w).b.toNat := by
  rw [← wordOfPixel_toNat, wordOfPixel_pixelOfWord]

/-- Settles O3: the lanes are bytes, so they are the base-256 digits of the word they make
(`toNat_eq_lanes`). -/
theorem pixelWordLayout : Obligations.PixelWordLayout := by
  unfold Obligations.PixelWordLayout
  refine ⟨fun w => ?lanes, wordOfPixel_toNat, rfl⟩
  have hw := toNat_eq_lanes w
  have hg := (pixelOfWord w).g.isLt
  have hb := (pixelOfWord w).b.isLt
  omega

/-! ### The commands without effect -/

@[simp] theorem exec_nop0 (s : State) : exec .nop0 s = .next s := rfl

@[simp] theorem exec_nop2 (s : State) : exec .nop2 s = .next s := rfl

/-- Settles O20: the CTRL writes of 0 and 2 are the operations these words decode to
(`transact_command`), and those leave the state as it is. -/
theorem noEffectWords : Obligations.NoEffectWords := by
  unfold Obligations.NoEffectWords
  intro s
  refine ⟨exec_nop0 s, exec_nop2 s, ?write0, ?write2⟩
  case write0 => exact (transact_command 0#2 s).trans (exec_nop0 s)
  case write2 => exact (transact_command 2#2 s).trans (exec_nop2 s)

end Sys2Proof.Machine

/-! ### The channel operations -/

namespace Sys2Proof.Machine

open Sys2Proof.Safety

@[simp] theorem exec_hi4 (v : Byte) (s : State) :
    exec (.hi4 v) s = .next { s with result := .nibble (highNibble v) } := rfl

@[simp] theorem exec_lo4 (v : Byte) (s : State) :
    exec (.lo4 v) s = .next { s with result := .nibble (lowNibble v) } := rfl

@[simp] theorem exec_pack (hn ln : Nibble) (s : State) :
    exec (.pack hn ln) s = .next { s with result := .byte (packNibbles hn ln) } := rfl

@[simp] theorem exec_expand (n : Nibble) (s : State) :
    exec (.expand n) s = .next { s with result := .byte (expandNibble n) } := rfl

@[simp] theorem exec_mergeCh (c p : Byte) (s : State) :
    exec (.mergeCh c p) s = .next { s with result := .byte (mergeChannel c p) } := rfl

@[simp] theorem exec_unmergeCh (v : Byte) (s : State) :
    exec (.unmergeCh v) s = .next { s with result := .byte (unmergeChannel v) } := rfl

/-- HI4 in the shift form (40_channel_datapath.md R72). -/
theorem highNibble_eq_shift (v : Byte) : highNibble v = (v >>> 4).setWidth 4 :=
  BitVec.setWidth_ushiftRight_eq_extractLsb.symm

/-- LO4 in the mask form (40_channel_datapath.md R73). -/
theorem lowNibble_eq_mask (v : Byte) : lowNibble v = (v &&& 0x0F#8).setWidth 4 := by
  apply BitVec.eq_of_toNat_eq
  rw [lowNibble_toNat, BitVec.toNat_setWidth, byte_and_low]
  exact (Nat.mod_mod v.toNat 16).symm

/-- PACK in the shift and OR form (40_channel_datapath.md R74). -/
theorem packNibbles_eq_shift_or (hn ln : Nibble) :
    packNibbles hn ln = (hn.setWidth 8 <<< 4) ||| ln.setWidth 8 := by
  rw [packNibbles, ← BitVec.setWidth_append_eq_shiftLeft_setWidth_or, BitVec.setWidth_eq]

/-- EXPAND in the shift form (40_channel_datapath.md R75): the OR with a low nibble of 0 drops out. -/
theorem expandNibble_eq_shift (n : Nibble) : expandNibble n = n.setWidth 8 <<< 4 := by
  rw [expandNibble, packNibbles_eq_shift_or]
  exact BitVec.or_zero

/-- Settles O4: the operations give the nibbles (`exec_hi4`, `exec_lo4`), and the nibbles are the
shift and the mask. -/
theorem nibbleExtraction : Obligations.NibbleExtraction := by
  unfold Obligations.NibbleExtraction
  intro v s
  refine ⟨?hi4, ?lo4, highNibble_toNat v, lowNibble_toNat v⟩
  case hi4 => rw [exec_hi4, highNibble_eq_shift]
  case lo4 => rw [exec_lo4, lowNibble_eq_mask]

/-- Settles O5: the operations give the packed byte (`exec_pack`, `exec_expand`), which is the shift
and the OR. -/
theorem nibblePacking : Obligations.NibblePacking := by
  unfold Obligations.NibblePacking
  intro hn ln n s
  refine ⟨?pack, ?expand, packNibbles_toNat hn ln, expandNibble_toNat n⟩
  case pack => rw [exec_pack, packNibbles_eq_shift_or]
  case expand => rw [exec_expand, expandNibble_eq_shift]

/-- Settles O7: the operation gives `mergeChannel` (`exec_mergeCh`), whose mask and shift form
is `mergeChannel_eq`. -/
theorem mergeChannelResult : Obligations.MergeChannelResult := by
  unfold Obligations.MergeChannelResult
  intro c p s
  rw [exec_mergeCh, mergeChannel_eq, stegoLane]

/-- Settles O8: the operation gives `unmergeChannel` (`exec_unmergeCh`), whose mask and shift form
is `unmergeChannel_eq`. -/
theorem unmergeChannelResult : Obligations.UnmergeChannelResult := by
  unfold Obligations.UnmergeChannelResult
  intro v s
  rw [exec_unmergeCh, unmergeChannel_eq, recoveredLane]

end Sys2Proof.Machine

/-! ### The pixel operations -/

namespace Sys2Proof.Machine

open Sys2Proof.Safety

@[simp] theorem exec_psel (s : State) :
    exec .psel s = readPayloadPixel s fun p => .next { s with result := .pixel p } := rfl

@[simp] theorem exec_mergePx (c p : Pixel) (s : State) :
    exec (.mergePx c p) s = .next { s with result := .pixel (mergePixels c p) } := rfl

@[simp] theorem exec_unmergePx (q : Pixel) (s : State) :
    exec (.unmergePx q) s = .next { s with result := .pixel (unmergePixel q) } := rfl

@[simp] theorem exec_nonblack (q : Pixel) (s : State) :
    exec (.nonblack q) s = .next { s with result := .bit (isNonblack q) } := rfl

theorem inPayload_iff (s : State) (x y : Nat) :
    inPayload s x y = true ↔ x < s.bW ∧ y < s.bH := by
  simp [inPayload]

/-- Outside the payload the payload operand is black, and no cell has to exist: GB is not accessed
(41_pixel_ops.md R80, 20_memory.md R46). -/
theorem readPayloadPixel_of_outside (s : State) (k : Pixel → Outcome)
    (h : ¬ (s.x < s.bW ∧ s.y < s.bH)) : readPayloadPixel s k = k Pixel.black :=
  if_neg fun hin => h ((inPayload_iff s s.x s.y).mp hin)

theorem isNonblack_black : isNonblack Pixel.black = false := rfl

/-- Settles O11: outside the payload by `readPayloadPixel_of_outside`; inside one that fits the
memories the cell at the scan position exists, so the operand is `payloadAt`, the pixel of GB. -/
theorem payloadSelection : Obligations.PayloadSelection := by
  unfold Obligations.PayloadSelection
  refine fun s => ⟨fun hout => ?outside, fun hx hy hW hH => ?inside⟩
  case outside =>
    rw [exec_psel, readPayloadPixel_of_outside s _ hout]
    rfl
  case inside =>
    have hcell : s.params.inRange s.x s.y = true :=
      (inRange_iff _ _ _).mpr ⟨hx.trans_le hW, hy.trans_le hH⟩
    rw [exec_psel, readPayloadPixel_of_inRange s _ hcell, payloadAt, if_pos ⟨hx, hy⟩]

/-- Settles O13: the operations give `mergePixels` and `unmergePixel`, which are the mask and shift
forms of the three lanes by `mergePixels_eq` and `unmergePixel_eq`. -/
theorem pixelTransforms : Obligations.PixelTransforms := by
  unfold Obligations.PixelTransforms
  intro c p s
  refine ⟨?mergePx, ?unmergePx⟩
  case mergePx => rw [exec_mergePx, mergePixels_eq]
  case unmergePx => rw [exec_unmergePx, unmergePixel_eq]

/-- Settles O14: the operation gives `isNonblack`, which is the disjunction over the channels
(`isNonblack_iff`). -/
theorem blackTest : Obligations.BlackTest := by
  unfold Obligations.BlackTest
  refine fun q s => ⟨fun hlit => ?lit, fun hblack => ?black⟩
  case lit => rw [exec_nonblack, (isNonblack_iff q).mpr hlit]
  case black => rw [exec_nonblack, show q = Pixel.black from hblack, isNonblack_black]

end Sys2Proof.Machine

/-! ### The scan -/

namespace Sys2Proof.Machine

open Sys2Proof.Safety

@[simp] theorem exec_scanAdv (s : State) : exec .scanAdv s = .next (scanAdvance s) := rfl

/-- At a coordinate of a grid that fits the memories neither increment wraps (00_scope.md R6). -/
theorem narrow_succ_of_inGrid {s : State} (hl : s.params.legal = true)
    (hx : s.x < s.aW) (haW : s.aW ≤ s.params.maxW) (hy : s.y < s.aH) (haH : s.aH ≤ s.params.maxH) :
    s.narrow (s.x + 1) = s.x + 1 ∧ s.narrow (s.y + 1) = s.y + 1 := by
  obtain ⟨-, ⟨-, hmaxW⟩, -, hmaxH⟩ := (params_legal_iff _).mp hl
  exact ⟨narrow_of_lt s _ (by omega), narrow_of_lt s _ (by omega)⟩

/-- The end of a column that is not the last coordinate is in a column before the last. -/
theorem succ_x_ne_of_lastRow {s : State} (hlast : isLast s = false) (hrow : s.y + 1 = s.aH) :
    s.x + 1 ≠ s.aW := fun hX => by
  simp [(isLast_iff s).mpr ⟨hX, hrow⟩] at hlast

/-- Settles O17: the three cases of `scanAdvance_cases`, where no increment wraps. -/
theorem scanAdvance_spec : Obligations.ScanAdvance := by
  unfold Obligations.ScanAdvance
  intro s hl hx haW hy haH
  obtain ⟨hnx, hny⟩ := narrow_succ_of_inGrid hl hx haW hy haH
  rcases scanAdvance_cases s with ⟨hlast, he⟩ | ⟨hlast, hrow, he⟩ | ⟨hrow, he⟩
  · obtain ⟨hX, hY⟩ := (isLast_iff s).mp hlast
    rw [exec_scanAdv, he, if_pos (by omega)]
  · have hX := succ_x_ne_of_lastRow hlast hrow
    rw [exec_scanAdv, he, if_neg (by omega), if_pos (by omega), hnx]
    rfl
  · rw [exec_scanAdv, he, if_neg (by omega), if_neg (by omega), hny]
    rfl

/-! ### A START that begins no run -/

@[simp] theorem exec_merge (s : State) : exec .merge s = startCommand .merge s := rfl

@[simp] theorem exec_unmerge (s : State) : exec .unmerge s = startCommand .unmerge s := rfl

/-- Outside BUSY a START is refused exactly on illegal geometry (42_sequencer.md R89). -/
theorem startCommand_refused_iff {op : Op} {s : State} (hs : s.status ≠ .busy) :
    startCommand op s = .refused .illegalGeometry ↔ ¬ legalGeometry op s = true := by
  by_cases hg : legalGeometry op s = true <;> simp [startCommand, hs, hg]

/-- Settles O23: in BUSY a START is ignored (`startCommand_busy`), and the CTRL writes of 1 and 3 are
the operations these words decode to (`transact_command`). -/
theorem startInBusyIsIgnored : Obligations.StartInBusyIsIgnored := by
  unfold Obligations.StartInBusyIsIgnored
  intro s hb
  have hmerge : exec .merge s = .next s := startCommand_busy .merge s hb
  have hunmerge : exec .unmerge s = .next s := startCommand_busy .unmerge s hb
  exact ⟨hmerge, hunmerge, (transact_command 1#2 s).trans hmerge,
    (transact_command 3#2 s).trans hunmerge⟩

/-- Settles O24: the refusal is the negation of the geometry predicate
(`startCommand_refused_iff`), whose conjuncts are the listed dimensions turned round. -/
theorem illegalGeometryIsRefused : Obligations.IllegalGeometryIsRefused := by
  unfold Obligations.IllegalGeometryIsRefused
  refine fun s hs => ⟨?merge, ?unmerge⟩
  case merge =>
    rw [exec_merge, startCommand_refused_iff hs, legalGeometry_iff]
    simp only [reduceCtorEq, false_or]
    omega
  case unmerge =>
    rw [exec_unmerge, startCommand_refused_iff hs, legalGeometry_iff]
    simp only [true_or, and_true]
    omega

/-! ### A pixel step in a good state -/

/-- A good state in BUSY with no event waiting takes its pixel step (42_sequencer.md R92). -/
theorem step_afterPixel {s : State} (h : GoodState s) (hq : s.pending = [])
    (hb : s.status = .busy) : step s = .next (afterPixel s) := by
  rw [step_of_pending_nil s hq, coreStep_afterPixel s hb (busy_facts s h hb).1]

theorem afterPixel_status_of_last {s : State} (hl : isLast s = true) :
    (afterPixel s).status = .done := by
  simp [afterPixel, hl]

theorem afterPixel_status_of_notLast {s : State} (hl : isLast s = false) :
    (afterPixel s).status = s.status := by
  simp [afterPixel, hl]

/-- FINISH of an UNMERGE run crops the result to the bound (42_sequencer.md R93). -/
theorem afterPixel_size_cropped {s : State} (h : isLast s = true ∧ s.opr = .unmerge) :
    (afterPixel s).oW = (boundAfter s).1 ∧ (afterPixel s).oH = (boundAfter s).2 := by
  simp [afterPixel, h]

/-- Every other pixel step keeps the size of the result (42_sequencer.md R93). -/
theorem afterPixel_size_kept {s : State} (h : ¬ (isLast s = true ∧ s.opr = .unmerge)) :
    (afterPixel s).oW = s.oW ∧ (afterPixel s).oH = s.oH := by
  simp [afterPixel, h]

/-- Settles O32: the step is `afterPixel` at the last coordinate. ERR, O_MODE and a MERGE result's
size are what the invariant says they are in BUSY; an UNMERGE result is cropped to the bound. -/
theorem finishEndsTheRun : Obligations.FinishEndsTheRun := by
  unfold Obligations.FinishEndsTheRun
  intro s h hq hb hX hY
  have hstep := step_afterPixel h hq hb
  obtain ⟨-, -, -, herr⟩ := busy_facts s h hb
  obtain ⟨-, -, -, -, hrun, -⟩ := h
  obtain ⟨-, ⟨hx, hy⟩, ⟨hoW, hoH, hmode⟩, -⟩ := hrun hb
  have hl : isLast s = true := (isLast_iff s).mpr ⟨by omega, by omega⟩
  refine ⟨afterPixel s, hstep, afterPixel_status_of_last hl, herr, hmode, fun ho => ?merge,
    fun ho => ?unmerge⟩
  case merge =>
    obtain ⟨hw, hh⟩ := afterPixel_size_kept (s := s) (by simp [ho])
    exact ⟨hw.trans hoW, hh.trans hoH⟩
  case unmerge => exact afterPixel_size_cropped ⟨hl, ho⟩

/-! ### A pixel step keeps the invariant -/

/-- The scan position moves as SCAN_ADV moves it (42_sequencer.md R92). -/
theorem afterPixel_position (s : State) :
    (afterPixel s).x = (scanAdvance s).x ∧ (afterPixel s).y = (scanAdvance s).y := by
  unfold scanAdvance afterPixel
  cases isLast s
  · cases lastRow s <;> simp
  · simp

theorem narrow_le (s : State) (v : Nat) : s.narrow v ≤ v := Nat.mod_le _ _

theorem narrow_lt (s : State) (v : Nat) : s.narrow v < 2 ^ s.params.dimW :=
  Nat.mod_lt _ (by positivity)

/-- SCAN_ADV never leaves the grid (42_sequencer.md R91). -/
theorem scanAdvance_inGrid {s : State} (hx : s.x < s.aW) (hy : s.y < s.aH) :
    (scanAdvance s).x < s.aW ∧ (scanAdvance s).y < s.aH := by
  have hnx := narrow_le s (s.x + 1)
  have hny := narrow_le s (s.y + 1)
  rcases scanAdvance_cases s with ⟨-, he⟩ | ⟨hlast, hrow, he⟩ | ⟨hrow, he⟩
  · rw [he]; exact ⟨hx, hy⟩
  · have hX := succ_x_ne_of_lastRow hlast hrow
    rw [he, State.setPosition_x, State.setPosition_y]; omega
  · rw [he, State.setPosition_x, State.setPosition_y]; omega

/-- The bound after a pixel step is the old one or one past the scan position (44_unmerge.md R107). -/
theorem boundAfter_cases (s : State) : boundAfter s = (s.boundX, s.boundY)
    ∨ boundAfter s = (s.narrow (s.x + 1), s.narrow (s.y + 1)) := by
  unfold boundAfter
  split
  · exact .inr rfl
  · exact .inl rfl

theorem boundAfter_fits {s : State} (h : registersFit s) :
    (boundAfter s).1 < 2 ^ s.params.dimW ∧ (boundAfter s).2 < 2 ^ s.params.dimW := by
  obtain ⟨-, -, -, hbound⟩ := h
  rcases boundAfter_cases s with he | he <;> rw [he]
  · exact hbound
  · exact ⟨narrow_lt s _, narrow_lt s _⟩

/-- The bound of an UNMERGE run stays inside the grid (10_state.md R19). -/
theorem boundAfter_inGrid {s : State} (h : GoodState s) (hb : s.status = .busy)
    (ho : s.opr = .unmerge) :
    (1 ≤ (boundAfter s).1 ∧ (boundAfter s).1 ≤ s.aW)
    ∧ 1 ≤ (boundAfter s).2 ∧ (boundAfter s).2 ≤ s.aH := by
  obtain ⟨-, hnx, hny, -⟩ := busy_facts s h hb
  obtain ⟨-, -, -, -, hrun, -⟩ := h
  obtain ⟨-, ⟨hx, hy⟩, -, -, hbound⟩ := hrun hb
  rcases boundAfter_cases s with he | he <;> rw [he]
  · exact hbound ho
  · rw [hnx, hny]; omega

theorem registersFit_afterPixel {s : State} (h : registersFit s) (hx : s.x < s.aW)
    (hy : s.y < s.aH) : registersFit (afterPixel s) := by
  have hbound := boundAfter_fits h
  obtain ⟨hpx, hpy⟩ := afterPixel_position s
  obtain ⟨hX, hY⟩ := scanAdvance_inGrid hx hy
  obtain ⟨⟨haW, haH, hB⟩, hout, -, -⟩ := h
  refine ⟨⟨haW, haH, hB⟩, ?size, ⟨?x, ?y⟩, hbound⟩
  case size =>
    by_cases hc : isLast s = true ∧ s.opr = .unmerge
    · rw [(afterPixel_size_cropped hc).1, (afterPixel_size_cropped hc).2]
      exact hbound
    · rw [(afterPixel_size_kept hc).1, (afterPixel_size_kept hc).2]
      exact hout
  case x => exact (hpx.trans_lt hX).trans haW
  case y => exact (hpy.trans_lt hY).trans haH

theorem memoriesFormed_afterPixel {s : State} (h : memoriesFormed s)
    (hr : s.params.inRange s.x s.y = true) : memoriesFormed (afterPixel s) := by
  obtain ⟨⟨hga, hgb, hgo⟩, ⟨hga', hgb', hgo'⟩, hepoch⟩ := h
  exact ⟨⟨hga, hgb, Memory.write_wf _ _ _ _ hgo⟩,
    ⟨hga', hgb', Memory.write_within _ _ _ _ _ hgo' hr⟩, hepoch⟩

theorem errMatchesStatus_of_noError {s : State} (he : s.err = .none) (hs : s.status ≠ .error) :
    errMatchesStatus s :=
  ⟨fun h => by simp [he] at h, fun h => absurd h hs⟩

/-- A pixel step keeps the invariant: a run that goes on stays inside its grid, a run that ends
returns a grid that is not empty (44_unmerge.md R114). -/
theorem goodState_afterPixel {s : State} (h : GoodState s) (hb : s.status = .busy) :
    GoodState (afterPixel s) := by
  obtain ⟨hcell, -, -, herr⟩ := busy_facts s h hb
  have hbound := boundAfter_inGrid h hb
  obtain ⟨hpx, hpy⟩ := afterPixel_position s
  obtain ⟨hp, hreg, hmem, -, hrun, -⟩ := h
  obtain ⟨hg, ⟨hx, hy⟩, ⟨hoW, hoH, hmode⟩, hsize, -⟩ := hrun hb
  have hreg' := registersFit_afterPixel hreg hx hy
  have hmem' := memoriesFormed_afterPixel hmem hcell
  cases hl : isLast s with
  | false =>
    have hstatus : (afterPixel s).status = .busy := (afterPixel_status_of_notLast hl).trans hb
    obtain ⟨hw, hh⟩ := afterPixel_size_kept (s := s) (by simp [hl])
    refine ⟨hp, hreg', hmem', errMatchesStatus_of_noError herr (by simp [hstatus]), fun _ => ?goesOn,
      fun hd => by simp [hstatus] at hd⟩
    refine ⟨hg, ?_, ⟨hw.trans hoW, hh.trans hoH, hmode⟩, hsize, hbound⟩
    rw [hpx, hpy]
    exact scanAdvance_inGrid hx hy
  | true =>
    have hstatus : (afterPixel s).status = .done := afterPixel_status_of_last hl
    refine ⟨hp, hreg', hmem', errMatchesStatus_of_noError herr (by simp [hstatus]),
      fun hd => by simp [hstatus] at hd, fun _ => ?ends⟩
    obtain ⟨hW, hH, -⟩ := (legalGeometry_iff _ _).mp hg
    cases ho : s.opr with
    | merge =>
      obtain ⟨hw, hh⟩ := afterPixel_size_kept (s := s) (by simp [ho])
      rw [hw, hh, hoW, hoH]
      exact ⟨hW, hH⟩
    | unmerge =>
      obtain ⟨hw, hh⟩ := afterPixel_size_cropped ⟨hl, ho⟩
      obtain ⟨⟨hbX, hbW⟩, hbY, hbH⟩ := hbound ho
      rw [hw, hh]
      exact ⟨⟨hbX, hbW.trans hW.2⟩, hbY, hbH.trans hH.2⟩

/-! ### The order of a scan -/

theorem position_inGrid {s : State} (h : GoodState s) (hb : s.status = .busy) :
    s.x < s.aW ∧ s.y < s.aH := by
  obtain ⟨-, -, -, -, hrun, -⟩ := h
  obtain ⟨-, hpos, -⟩ := hrun hb
  exact hpos

/-- The number of the scan position in scan order (42_sequencer.md R90). -/
def scanIndex (s : State) : Nat := s.x * s.aH + s.y

/-- A pixel step before the last coordinate goes to the next one in scan order (42_sequencer.md R90,
R91). -/
theorem scanIndex_afterPixel {s : State} (h : GoodState s) (hb : s.status = .busy)
    (hl : isLast s = false) : scanIndex (afterPixel s) = scanIndex s + 1 := by
  obtain ⟨-, hnx, hny, -⟩ := busy_facts s h hb
  obtain ⟨hpx, hpy⟩ := afterPixel_position s
  unfold scanIndex
  rw [hpx, hpy, show (afterPixel s).aH = s.aH from rfl]
  rcases scanAdvance_cases s with ⟨hlast, -⟩ | ⟨-, hrow, he⟩ | ⟨-, he⟩
  · rw [hl] at hlast; cases hlast
  · rw [he, State.setPosition_x, State.setPosition_y, hnx, Nat.succ_mul]; omega
  · rw [he, State.setPosition_x, State.setPosition_y, hny]; omega

/-- `t` stands in the run that is in progress in `s`, `k` pixel steps later. -/
structure StepsOnward (s t : State) (k : Nat) : Prop where
  good : GoodState t
  busy : t.status = .busy
  quiet : t.pending = []
  size : t.aW = s.aW ∧ t.aH = s.aH
  index : scanIndex t = scanIndex s + k

namespace StepsOnward

variable {s t : State} {k : Nat}

theorem refl (h : GoodState s) (hb : s.status = .busy) (hq : s.pending = []) :
    StepsOnward s s 0 := ⟨h, hb, hq, ⟨rfl, rfl⟩, rfl⟩

/-- A run that has coordinates after this one does not stand at the last. -/
theorem isLast_eq_false (h : StepsOnward s t k) (hk : scanIndex s + (k + 1) < s.aW * s.aH) :
    isLast t = false := by
  obtain ⟨hx, hy⟩ := position_inGrid h.good h.busy
  have hidx : t.x * t.aH + t.y = scanIndex s + k := h.index
  rw [Bool.eq_false_iff, ne_eq, isLast_iff, ← scanIndex_last_iff hx hy, h.size.1, h.size.2]
  rw [h.size.2] at hidx
  omega

theorem succ (h : StepsOnward s t k) (hl : isLast t = false) :
    StepsOnward s (afterPixel t) (k + 1) where
  good := goodState_afterPixel h.good h.busy
  busy := (afterPixel_status_of_notLast hl).trans h.busy
  quiet := h.quiet
  size := h.size
  index := by rw [scanIndex_afterPixel h.good h.busy hl, h.index, Nat.add_assoc]

/-- A run in progress passes its coordinates one by one, whatever step it is at (42_sequencer.md
R90). -/
theorem exists_of_lt (h : GoodState s) (hb : s.status = .busy) (hq : s.pending = []) (k : Nat)
    (hk : scanIndex s + k < s.aW * s.aH) :
    ∃ t, runSteps k s = .next t ∧ StepsOnward s t k := by
  induction k with
  | zero => exact ⟨s, rfl, refl h hb hq⟩
  | succ k ih =>
    obtain ⟨t, hrun, ht⟩ := ih (by omega)
    refine ⟨afterPixel t, ?_, ht.succ (ht.isLast_eq_false hk)⟩
    rw [runSteps_add k 1 s t hrun, runSteps_succ 0 t _ (step_afterPixel ht.good ht.quiet ht.busy),
      runSteps_zero]

end StepsOnward

/-- Settles O52: the run passes its coordinates one by one (`StepsOnward.exists_of_lt`), and a
position is the quotient and the remainder of its number. -/
theorem scanOrder : Obligations.ScanOrder := by
  unfold Obligations.ScanOrder
  intro s h hq hb hx hy k hk
  have hstart : scanIndex s = 0 := by simp [scanIndex, hx, hy]
  obtain ⟨t, hrun, ht⟩ := StepsOnward.exists_of_lt h hb hq k (by omega)
  obtain ⟨-, hY⟩ := position_inGrid ht.good ht.busy
  have hidx : t.y + t.aH * t.x = k := by
    have := ht.index
    rw [scanIndex, hstart, Nat.mul_comm] at this
    omega
  obtain ⟨hdiv, hmod⟩ := (Nat.div_mod_unique (by omega)).mpr ⟨hidx, hY⟩
  rw [← ht.size.2]
  exact ⟨t, hrun, ht.busy, hdiv.symm, hmod.symm⟩

end Sys2Proof.Machine

/-! ### The start step of MERGE -/

namespace Sys2Proof.Machine

/-- The size check fails exactly on a payload too wide or too high (43_merge.md R97). -/
theorem sizeOk_eq_false_iff (s : State) : sizeOk s = false ↔ s.aW < s.bW ∨ s.aH < s.bH := by
  rw [Bool.eq_false_iff, ne_eq, sizeOk_iff]
  omega

/-- Settles O21: the listed conditions are the legal geometry, so the start step is taken
(`startCommand_accepted`); the two outcomes are the two branches of its size check. -/
theorem mergeStartStep : Obligations.MergeStartStep := by
  unfold Obligations.MergeStartStep
  intro s hs hW hH hB
  have hgeometry : legalGeometry .merge s = true := (legalGeometry_iff _ _).mpr ⟨hW, hH, .inr hB⟩
  have hstart : exec .merge s = .next (mergeStart (s.setOpr .merge)) :=
    startCommand_accepted .merge s hs hgeometry
  refine ⟨fun hw hh => ?fits, fun hlarge => ?tooLarge⟩
  case fits =>
    have hsize : sizeOk (s.setOpr .merge) = true := (sizeOk_iff _).mpr ⟨hw, hh⟩
    rw [hstart, mergeStart_fits _ hsize]
    rfl
  case tooLarge =>
    have hsize : sizeOk (s.setOpr .merge) = false := (sizeOk_eq_false_iff _).mpr hlarge
    rw [hstart, mergeStart_tooLarge _ hsize]
    rfl

end Sys2Proof.Machine

/-! ### What the pixel steps write -/

namespace Sys2Proof.Machine

open Sys2Proof.Safety

/-- At a coordinate that exists BOUND_UPD narrows neither increment (00_scope.md R6, 44_unmerge.md
R107). -/
theorem boundUpdate_of_inRange {s : State} (hl : s.params.legal = true)
    (hr : s.params.inRange s.x s.y = true) : boundUpdate s = s.setBound (s.x + 1) (s.y + 1) := by
  obtain ⟨-, ⟨-, hmaxW⟩, -, hmaxH⟩ := (params_legal_iff _).mp hl
  obtain ⟨hx, hy⟩ := (inRange_iff _ _ _).mp hr
  rw [boundUpdate, narrow_of_lt s _ (by omega), narrow_of_lt s _ (by omega)]

theorem trackBound_of_nonblack {q : Pixel} (h : isNonblack q = true) (s : State) :
    trackBound q s = boundUpdate s := if_pos h

theorem trackBound_of_black {q : Pixel} (h : ¬ isNonblack q = true) (s : State) :
    trackBound q s = s := if_neg h

/-- The bound is tracked in registers: no memory is touched (44_unmerge.md R107). -/
@[simp] theorem trackBound_pixelAt (q : Pixel) (s : State) (id : GridId) (x y : Nat) :
    (trackBound q s).pixelAt id x y = s.pixelAt id x y :=
  State.pixelAt_congr _ _ _ _ _ (by cases id <;> simp [State.memory])

/-- Settles O59: each step is one pixel write at the scan position (`mergePixelStep_eq`,
`unmergePixelStep_eq`), which replaces one cell; UNMERGE then tracks the bound, which the black test
of the recovered pixel, that is `litAt`, decides. -/
theorem pixelStepWrites : Obligations.PixelStepWrites := by
  unfold Obligations.PixelStepWrites
  intro s hl hx hy
  have hcell : s.params.inRange s.x s.y = true := (inRange_iff _ _ _).mpr ⟨hx, hy⟩
  refine ⟨⟨_, mergePixelStep_eq s hcell, ?merge⟩, ⟨_, unmergePixelStep_eq s hcell, ?unmerge⟩⟩
  case merge =>
    obtain ⟨hsame, hother, -⟩ := pixelWriteReplacesOneCell s .go s.x s.y
      (stegoPixel (s.pixelAt .ga s.x s.y) (payloadAt s s.x s.y))
    exact ⟨hsame, fun x y hne => hother .go x y fun h => hne h.2, rfl⟩
  case unmerge =>
    have hblack := isNonblack_unmergePixel s s.x s.y
    obtain ⟨hsame, hother, -⟩ := pixelWriteReplacesOneCell s .go s.x s.y
      (recoveredPixel (s.pixelAt .ga s.x s.y))
    refine ⟨(trackBound_pixelAt _ _ _ _ _).trans hsame,
      fun x y hne => (trackBound_pixelAt _ _ _ _ _).trans (hother .go x y fun h => hne h.2),
      fun hlit => ?lit, fun hdark => ?dark⟩
    case lit =>
      rw [trackBound_of_nonblack (hblack.mpr hlit),
        boundUpdate_of_inRange (s := s.setPixel .go _ _ _) hl hcell]
      rfl
    case dark =>
      rw [trackBound_of_black (mt hblack.mp hdark)]
      rfl

end Sys2Proof.Machine

/-! ### The operations of UNMERGE -/

namespace Sys2Proof.Machine

@[simp] theorem exec_boundUpd (s : State) : exec .boundUpd s = .next (boundUpdate s) := rfl

@[simp] theorem exec_crop (s : State) : exec .crop s = .next (cropOutput s) := rfl

/-- Settles O18: the operation is `boundUpdate` (`exec_boundUpd`), whose increments do not wrap at a
coordinate that exists (`boundUpdate_of_inRange`). -/
theorem boundUpdate_spec : Obligations.BoundUpdate := by
  unfold Obligations.BoundUpdate
  intro s hl hx hy
  have hcell : s.params.inRange s.x s.y = true := (inRange_iff _ _ _).mpr ⟨hx, hy⟩
  rw [exec_boundUpd, boundUpdate_of_inRange hl hcell]
  rfl

/-- Settles O19: the operation is `cropOutput` (`exec_crop`), which loads the output size from the
bound. -/
theorem cropNarrowsTheWindow : Obligations.CropNarrowsTheWindow := by
  unfold Obligations.CropNarrowsTheWindow
  intro s
  rw [exec_crop]
  rfl

/-- Settles O22: the two conditions on the stego grid are the legal geometry of UNMERGE, which asks
nothing of the payload registers, so the start step is taken (`startCommand_accepted`); it has no
size check to pass. -/
theorem unmergeStartStep : Obligations.UnmergeStartStep := by
  unfold Obligations.UnmergeStartStep
  intro s hs hW hH
  have hgeometry : legalGeometry .unmerge s = true :=
    (legalGeometry_iff _ _).mpr ⟨hW, hH, .inl rfl⟩
  rw [exec_unmerge, startCommand_accepted .unmerge s hs hgeometry]
  rfl

end Sys2Proof.Machine

/-! ### The host ports in BUSY -/

namespace Sys2Proof.Machine

open Sys2Proof.Safety

/-- R134 at the register port: a write of an input register that fits is refused in BUSY. -/
theorem transact_wr_busy {s : State} {idx v : Nat} {r : Reg} (hs : s.status = .busy)
    (hi : Reg.ofIndex idx = some r) (hr : isInputRegister r = true)
    (hv : v < 2 ^ r.width s.params) : transact (.wr idx v) s = .refused .writeWhileBusy :=
  (transact_wr s idx v r hi hv).trans (writeRegister_busy r v s hr hs)

/-- R134 at the grid port: a write of a cell that exists is refused in BUSY. -/
theorem transact_gwr_busy {s : State} {x y : Nat} (hs : s.status = .busy) (id : GridId)
    (w : PixelWord) (h : s.params.inRange x y = true) :
    transact (.gwr (GridId.select id) x y w) s = .refused .writeWhileBusy := by
  rw [transact_gwr s id x y w h, writeCell, if_pos hs]

/-- A read of any register but the output descriptor gives what it holds, in every status. -/
theorem transact_rd_plain {s : State} {idx : Nat} {r : Reg} (hi : Reg.ofIndex idx = some r)
    (hr : isOutputRegister r = false) :
    transact (.rd idx) s = .next { s with reply := .register (s.readRegister r) } := by
  rw [transact_rd s idx r hi, readRegister_plain r s (.inl hr)]
  rfl

/-- A read of a cell of GA or GB gives what it holds, in every status. -/
theorem transact_grd_plain {s : State} {x y : Nat} {id : GridId} (hid : id ≠ .go)
    (h : s.params.inRange x y = true) : transact (.grd (GridId.select id) x y) s =
      .next { s with reply := .pixel (wordOfPixel (s.pixelAt id x y)) } := by
  rw [transact_grd s id x y h, readCell_plain id x y s (.inl hid)]
  rfl

/-- R135 at the register port: a read of an output register in BUSY gives a draw of its width. -/
theorem transact_rd_drawn {s : State} {idx : Nat} {r : Reg} (hs : s.status = .busy)
    (hi : Reg.ofIndex idx = some r) (hr : isOutputRegister r = true) :
    ∃ v, v < 2 ^ r.width s.params
      ∧ transact (.rd idx) s = .next { s with reply := .register v, draws := s.draws + 1 } := by
  refine ⟨_, Nat.mod_lt (Config.drawnRegister s.draws) (Nat.two_pow_pos _), ?_⟩
  rw [transact_rd s idx r hi, readRegister_drawn r s hr hs]
  rfl

/-- R109, R135 at the grid port: where a cell of GO is drawn, a read of it gives a draw. -/
theorem transact_grd_drawn {s : State} {x y : Nat} (hd : outputCellIsDrawn s x y = true)
    (h : s.params.inRange x y = true) : ∃ w, transact (.grd (GridId.select .go) x y) s =
      .next { s with reply := .pixel w, draws := s.draws + 1 } := by
  refine ⟨wordOfPixel (Config.drawnPixel s.draws), ?_⟩
  rw [transact_grd s .go x y h, readCell_drawn x y s hd]
  rfl

theorem outputCellIsDrawn_of_busy {s : State} (hs : s.status = .busy) (x y : Nat) :
    outputCellIsDrawn s x y = true := by
  simp [outputCellIsDrawn, hs]

theorem statusCode_eq_statusValue (v : Status) : statusCode v = statusValue v := by
  cases v <;> rfl

theorem errCode_eq_errValue (v : Err) : errCode v = errValue v := by
  cases v <;> rfl

/-- The input registers are the registers of indices 3 to 7 (10_state.md R24). -/
theorem exists_inputRegister_of_index {idx : Nat} (hlo : 3 ≤ idx) (hhi : idx ≤ 7) :
    ∃ r, Reg.ofIndex idx = some r ∧ isInputRegister r = true := by
  interval_cases idx <;> exact ⟨_, rfl, rfl⟩

theorem isOutputRegister_of_input {r : Reg} (hr : isInputRegister r = true) :
    isOutputRegister r = false := by
  revert hr
  cases r <;> decide

/-- Settles O41: each port refuses the write (`transact_wr_busy`, `transact_gwr_busy`), and a read of
an input register or of GA or GB is plain in every status. -/
theorem inputsAreFrozenInBusy : Obligations.InputsAreFrozenInBusy := by
  unfold Obligations.InputsAreFrozenInBusy
  intro s hs
  refine ⟨fun v hv => ⟨?aW, ?aH, ?bW, ?bH⟩, fun v hv => ?aMode, ?cellWrites, ?registerReads,
    ?cellReads⟩
  case aW => exact transact_wr_busy (r := .aW) hs rfl rfl hv
  case aH => exact transact_wr_busy (r := .aH) hs rfl rfl hv
  case bW => exact transact_wr_busy (r := .bW) hs rfl rfl hv
  case bH => exact transact_wr_busy (r := .bH) hs rfl rfl hv
  case aMode => exact transact_wr_busy (r := .aMode) hs rfl rfl hv
  case cellWrites =>
    intro id x y w hx hy
    exact transact_gwr_busy hs id w ((inRange_iff _ _ _).mpr ⟨hx, hy⟩)
  case registerReads =>
    intro idx hlo hhi
    obtain ⟨r, hi, hr⟩ := exists_inputRegister_of_index hlo hhi
    exact ⟨r, hi, transact_rd_plain hi (isOutputRegister_of_input hr)⟩
  case cellReads =>
    intro x y hx hy
    have hcell : s.params.inRange x y = true := (inRange_iff _ _ _).mpr ⟨hx, hy⟩
    exact ⟨transact_grd_plain (id := .ga) (by decide) hcell,
      transact_grd_plain (id := .gb) (by decide) hcell⟩

/-- Settles O42: in BUSY the output registers and the cells of GO are drawn (`transact_rd_drawn`,
`transact_grd_drawn`); STATUS and ERR are not output registers, so their reads are plain. -/
theorem outputsAreDrawsInBusy : Obligations.OutputsAreDrawsInBusy := by
  unfold Obligations.OutputsAreDrawsInBusy
  intro s
  refine ⟨fun hs => ⟨?size, ?mode, ?cells⟩, ?status, ?err⟩
  case size =>
    rintro idx (rfl | rfl)
    · exact transact_rd_drawn (r := .oW) hs rfl rfl
    · exact transact_rd_drawn (r := .oH) hs rfl rfl
  case mode => exact transact_rd_drawn (r := .oMode) hs rfl rfl
  case cells =>
    intro x y hx hy
    exact transact_grd_drawn (outputCellIsDrawn_of_busy hs x y) ((inRange_iff _ _ _).mpr ⟨hx, hy⟩)
  case status =>
    rw [← statusCode_eq_statusValue]
    exact transact_rd_plain (r := .status) rfl rfl
  case err =>
    rw [← errCode_eq_errValue]
    exact transact_rd_plain (r := .err) rfl rfl

end Sys2Proof.Machine

/-! ### The encodings -/

namespace Sys2Proof

/-- Every operation meets the law of the command words, one case per operation (30_encoding.md
R64). -/
theorem Laws.Encoding.statement (i : Instr) : Laws.Encoding.Statement i := by
  cases i with
  | merge => exact Laws.Encoding.merge
  | unmerge => exact Laws.Encoding.unmerge
  | nop0 => exact Laws.Encoding.nop0
  | nop2 => exact Laws.Encoding.nop2
  | sizechk => exact Laws.Encoding.sizechk
  | scanAdv => exact Laws.Encoding.scanAdv
  | boundUpd => exact Laws.Encoding.boundUpd
  | crop => exact Laws.Encoding.crop
  | psel => exact Laws.Encoding.psel
  | mergePx c p => exact Laws.Encoding.mergePx c p
  | unmergePx q => exact Laws.Encoding.unmergePx q
  | nonblack q => exact Laws.Encoding.nonblack q
  | hi4 v => exact Laws.Encoding.hi4 v
  | lo4 v => exact Laws.Encoding.lo4 v
  | pack hn ln => exact Laws.Encoding.pack hn ln
  | expand n => exact Laws.Encoding.expand n
  | mergeCh c p => exact Laws.Encoding.mergeCh c p
  | unmergeCh v => exact Laws.Encoding.unmergeCh v

/-- The commands are the operations with a word (30_encoding.md R64). -/
theorem wellFormed_iff_encode (i : Instr) : i.wellFormed = true ↔ ∃ w, encode i = some w := by
  obtain ⟨hword, -⟩ := Laws.Encoding.statement i
  rw [hword, Option.isSome_iff_exists]

/-- A word is the encoding of the one operation it decodes to (30_encoding.md R58). -/
theorem encode_eq_some_iff (i : Instr) (w : CommandWord) :
    encode i = some w ↔ decodeCommand w = i := by
  obtain ⟨-, hdecode⟩ := Laws.Encoding.statement i
  exact ⟨hdecode w, fun h => h ▸ encode_decodeCommand w⟩

/-- A number is read as the command whose word it is (30_encoding.md R57). -/
theorem decodeValue_ok_iff_encode (v : Nat) (i : Instr) :
    decodeValue v = .ok i ↔ ∃ w : CommandWord, encode i = some w ∧ v = w.toNat := by
  simp only [decodeValue_ok, encode_eq_some_iff]
  constructor
  · rintro ⟨hv, hi⟩
    exact ⟨_, hi, (BitVec.toNat_ofNat v 2).symm ▸ (Nat.mod_eq_of_lt hv).symm⟩
  · rintro ⟨w, hi, rfl⟩
    exact ⟨w.isLt, by rwa [BitVec.ofNat_toNat, BitVec.setWidth_eq]⟩

/-- A table word is laid out in as many bytes as its bits need and read back as the number they give
(log 12). -/
theorem decodeTableWord_eq_some_iff {nbits : Nat} (hn : 0 < nbits) (v : Nat) (i : Instr) :
    decodeTableWord nbits v = some i ↔ decodeValue (tableValue nbits v) = .ok i := by
  obtain ⟨k, hk⟩ : ∃ k, (nbits + 7) / 8 = k + 1 := ⟨(nbits - 1) / 8, by omega⟩
  have hfit : tableValue nbits v < 256 ^ (k + 1) := calc
    tableValue nbits v < 2 ^ nbits := Nat.mod_lt _ (by positivity)
    _ ≤ 2 ^ (8 * (k + 1)) := Nat.pow_le_pow_right (by decide) (by omega)
    _ = 256 ^ (k + 1) := by rw [pow_mul]; rfl
  rw [decodeTableWord, hk, decodeBytes_natToBytes k _ hfit]
  cases decodeValue (tableValue nbits v) <;> simp

theorem bytesToNat_eq_zero_iff (bs : List Byte) : bytesToNat bs = 0 ↔ ∀ c ∈ bs, c = 0 := by
  induction bs with
  | nil => simp [bytesToNat]
  | cons b bs ih =>
    have hb : b = 0 ↔ b.toNat = 0 := BitVec.toNat_eq
    rw [List.forall_mem_cons, ← ih, hb, bytesToNat]
    omega

/-- Bytes make a number below 256 exactly when that number is the first byte and the others are
0. -/
theorem bytesToNat_cons_eq_iff (b : Byte) (bs : List Byte) {n : Nat} (hn : n < 256) :
    bytesToNat (b :: bs) = n ↔ b.toNat = n ∧ ∀ c ∈ bs, c = 0 := by
  rw [← bytesToNat_eq_zero_iff, bytesToNat]
  omega

/-- Bytes hold a command exactly when the first is its word and the others are 0 (log 12). -/
theorem decodeBytes_cons_ok_iff (b : Byte) (bs : List Byte) (i : Instr) :
    decodeBytes (b :: bs) = .ok i ↔
      (∃ w : CommandWord, encode i = some w ∧ b.toNat = w.toNat) ∧ ∀ c ∈ bs, c = 0 := by
  have hw (w : CommandWord) : w.toNat < 256 := w.isLt.trans (by decide)
  rw [decodeBytes, decodeValue_ok_iff_encode, ← exists_and_right]
  refine exists_congr fun w => ?_
  rw [bytesToNat_cons_eq_iff b bs (hw w), and_assoc]

theorem ofSelect_eq_some_iff (m : MemorySelect) (id : GridId) :
    GridId.ofSelect m = some id ↔ GridId.select id = m := by
  cases id <;> (revert m; decide)

theorem ofIndex_index (r : Reg) : Reg.ofIndex r.index = some r := by
  cases r <;> rfl

theorem ofIndex_eq_some_iff (n : Nat) (r : Reg) : Reg.ofIndex n = some r ↔ r.index = n := by
  refine ⟨fun h => ?_, fun h => h ▸ ofIndex_index r⟩
  unfold Reg.ofIndex at h
  split at h <;> cases h <;> rfl

/-- Settles O2: a word is the encoding of the one operation it decodes to (`encode_eq_some_iff`);
numbers, bytes and table words are read through that word, the other encodings are tables read both
ways. -/
theorem encodingsRoundTrip : Obligations.EncodingsRoundTrip := by
  unfold Obligations.EncodingsRoundTrip
  refine ⟨wellFormed_iff_encode, fun i w => ?words, fun i v => ?tableWords,
    decodeBytes_cons_ok_iff, Machine.pixelOfWord_wordOfPixel, Machine.wordOfPixel_pixelOfWord,
    ofSelect_eq_some_iff, ofIndex_eq_some_iff⟩
  case words =>
    rw [← encode_eq_some_iff, iff_and_self]
    exact fun h => (wellFormed_iff_encode i).mpr ⟨w, h⟩
  case tableWords =>
    rw [decodeTableWord_eq_some_iff (by decide), decodeValue_ok_iff_encode]
    rfl

end Sys2Proof

/-! ### What a command does -/

namespace Sys2Proof.Machine

open Sys2Proof.Safety

/-- Everything a command that answers a next state can do: nothing, or the start step of its
operation outside BUSY on legal geometry (30_encoding.md R65, 42_sequencer.md R87, R88). -/
theorem command_cases {v : Nat} {s t : State} (hv : v < 4)
    (h : exec (decodeCommand (BitVec.ofNat 2 v)) s = .next t) :
    t = s ∨ ∃ op, v = startWord op ∧ s.status ≠ .busy ∧ legalGeometry op s = true
      ∧ t = startStep op (s.setOpr op) := by
  interval_cases v
  · cases h; exact .inl rfl
  · exact (startCommand_cases .merge s t h).imp And.right fun hstart => ⟨.merge, rfl, hstart⟩
  · cases h; exact .inl rfl
  · exact (startCommand_cases .unmerge s t h).imp And.right fun hstart => ⟨.unmerge, rfl, hstart⟩

/-- Everything the start step of an operation can do (43_merge.md R98, 44_unmerge.md R105). -/
theorem startStep_cases (op : Op) (s : State) :
    (startStep op s = beginRun s ∧ op = .merge ∧ sizeOk s = true)
    ∨ (startStep op s = raiseSizeError s ∧ op = .merge ∧ sizeOk s = false)
    ∨ (startStep op s = beginRun (s.setBound Config.boundInit Config.boundInit)
      ∧ op = .unmerge) := by
  cases op with
  | merge =>
    cases hsize : sizeOk s with
    | true => exact .inl ⟨mergeStart_fits s hsize, rfl, rfl⟩
    | false => exact .inr (.inl ⟨mergeStart_tooLarge s hsize, rfl, rfl⟩)
  | unmerge => exact .inr (.inr ⟨rfl, rfl⟩)

/-! ### Every event keeps the invariant -/

/-- The state after a reset is good, whatever legal parameters it finds (10_state.md R32). -/
theorem goodState_afterReset {p : Params} (n : Nat) (hp : p.legal = true) :
    GoodState (State.afterReset p n) := by
  obtain ⟨hdim, -⟩ := (params_legal_iff p).mp hp
  have h0 : 0 < 2 ^ p.dimW := by positivity
  have h1 : 1 < 2 ^ p.dimW := Nat.one_lt_two_pow (by omega)
  exact ⟨hp, ⟨⟨h0, h0, h0, h0⟩, ⟨h0, h0⟩, ⟨h0, h0⟩, h1, h1⟩,
    ⟨⟨rfl, rfl, rfl⟩, ⟨rfl, rfl, rfl⟩, le_rfl, le_rfl, le_rfl⟩,
    errMatchesStatus_of_noError rfl nofun, nofun, nofun⟩

/-- Settles O49: the state after reset is `State.afterReset` at the suggested parameters. -/
theorem resetMeetsTheInvariant : Obligations.ResetMeetsTheInvariant :=
  goodState_afterReset 0 (by decide)

/-- In BUSY a reset keeps GA and GB (70_reset_and_hazards.md R131, log 8). -/
theorem resetState_busy {s : State} (hb : s.status = .busy) :
    resetState s = { State.afterReset s.params (s.draws + 1) with
      ga := s.ga, gb := s.gb, pending := s.pending } := by
  simp [resetState, hb]

/-- Outside BUSY a reset makes all three memories draws (70_reset_and_hazards.md R130, log 8). -/
theorem resetState_quiet {s : State} (hb : s.status ≠ .busy) :
    resetState s = { State.afterReset s.params (s.draws + 1) with pending := s.pending } := by
  simp [resetState, hb, State.afterReset, unspecifiedMemory]

theorem goodState_resetState {s : State} (h : GoodState s) : GoodState (resetState s) := by
  obtain ⟨hp, -, ⟨⟨hga, hgb, -⟩, ⟨hga', hgb', -⟩, hepa, hepb, -⟩, -⟩ := h
  have hgood := goodState_afterReset (s.draws + 1) hp
  by_cases hb : s.status = .busy
  · obtain ⟨-, hreg, -, herr, hrun, hgrid⟩ := hgood
    rw [resetState_busy hb]
    exact ⟨hp, hreg, ⟨⟨hga, hgb, rfl⟩, ⟨hga', hgb', rfl⟩, Nat.le_succ_of_le hepa,
      Nat.le_succ_of_le hepb, le_rfl⟩, herr, hrun, hgrid⟩
  · rw [resetState_quiet hb]
    exact hgood

/-- What the host reads last is no part of the invariant (log 5). -/
theorem goodState_setReply {s : State} (h : GoodState s) (r : HostReply) :
    GoodState (s.setReply r) := h

theorem goodState_useDraw {s : State} (h : GoodState s) : GoodState s.useDraw := by
  obtain ⟨hp, hreg, ⟨hwf, hwithin, ha, hb, ho⟩, hrest⟩ := h
  exact ⟨hp, hreg, ⟨hwf, hwithin, Nat.le_succ_of_le ha, Nat.le_succ_of_le hb,
    Nat.le_succ_of_le ho⟩, hrest⟩

/-- A pixel write at a cell that exists keeps the memories in form (20_memory.md R37). -/
theorem goodState_setPixel {s : State} (h : GoodState s) (id : GridId) {x y : Nat} (p : Pixel)
    (hr : s.params.inRange x y = true) : GoodState (s.setPixel id x y p) := by
  obtain ⟨hp, hreg, ⟨⟨hga, hgb, hgo⟩, ⟨hga', hgb', hgo'⟩, hepoch⟩, hrest⟩ := h
  cases id with
  | ga => exact ⟨hp, hreg, ⟨⟨Memory.write_wf _ _ _ _ hga, hgb, hgo⟩,
      ⟨Memory.write_within _ _ _ _ _ hga' hr, hgb', hgo'⟩, hepoch⟩, hrest⟩
  | gb => exact ⟨hp, hreg, ⟨⟨hga, Memory.write_wf _ _ _ _ hgb, hgo⟩,
      ⟨hga', Memory.write_within _ _ _ _ _ hgb' hr, hgo'⟩, hepoch⟩, hrest⟩
  | go => exact ⟨hp, hreg, ⟨⟨hga, hgb, Memory.write_wf _ _ _ _ hgo⟩,
      ⟨hga', hgb', Memory.write_within _ _ _ _ _ hgo' hr⟩, hepoch⟩, hrest⟩

/-- A read of a register changes the reply and may use a draw (10_state.md R25 b). -/
theorem goodState_readRegister {s : State} (h : GoodState s) (r : Reg) :
    GoodState (readRegister r s) := by
  unfold readRegister
  split
  · exact goodState_setReply (goodState_useDraw h) _
  · exact goodState_setReply h _

/-- A read of a cell changes the reply and may use a draw (20_memory.md R36). -/
theorem goodState_readCell {s : State} (h : GoodState s) (id : GridId) (x y : Nat) :
    GoodState (readCell id x y s) := by
  unfold readCell
  split
  · exact goodState_setReply (goodState_useDraw h) _
  · exact goodState_setReply h _

/-- A write of a value that fits its register; an input register is written outside BUSY only, where
nothing ties it to a run (10_state.md R25, 70_reset_and_hazards.md R134). -/
theorem goodState_storeRegister {s : State} (h : GoodState s) {r : Reg} {v : Nat}
    (hv : v < 2 ^ r.width s.params) (hs : isInputRegister r = true → s.status ≠ .busy) :
    GoodState (storeRegister r v s) := by
  have hgood := h
  obtain ⟨hp, ⟨⟨haW, haH, hbW, hbH⟩, hregs⟩, hmem, herr, -, hgrid⟩ := h
  cases r with
  | aW => exact ⟨hp, ⟨⟨hv, haH, hbW, hbH⟩, hregs⟩, hmem, herr, fun hb => absurd hb (hs rfl), hgrid⟩
  | aH => exact ⟨hp, ⟨⟨haW, hv, hbW, hbH⟩, hregs⟩, hmem, herr, fun hb => absurd hb (hs rfl), hgrid⟩
  | bW => exact ⟨hp, ⟨⟨haW, haH, hv, hbH⟩, hregs⟩, hmem, herr, fun hb => absurd hb (hs rfl), hgrid⟩
  | bH => exact ⟨hp, ⟨⟨haW, haH, hbW, hv⟩, hregs⟩, hmem, herr, fun hb => absurd hb (hs rfl), hgrid⟩
  | aMode =>
    exact ⟨hp, ⟨⟨haW, haH, hbW, hbH⟩, hregs⟩, hmem, herr, fun hb => absurd hb (hs rfl), hgrid⟩
  | ctrl | status | err | oW | oH | oMode => exact hgood

/-- A run begins good: the scan at (0, 0) of a legal geometry, the output descriptor that of the
input (43_merge.md R98, 44_unmerge.md R105). -/
theorem goodState_beginRun {s : State} (h : GoodState s) (hg : legalGeometry s.opr s = true)
    (hsize : s.opr = .merge → sizeOk s = true)
    (hbound : s.opr = .unmerge → s.boundX = 1 ∧ s.boundY = 1) : GoodState (beginRun s) := by
  obtain ⟨hp, ⟨⟨haW, haH, hB⟩, -, -, hbnd⟩, hmem, -⟩ := h
  obtain ⟨⟨hw, -⟩, ⟨hh, -⟩, -⟩ := (legalGeometry_iff _ _).mp hg
  have h0 : 0 < 2 ^ s.params.dimW := by positivity
  refine ⟨hp, ⟨⟨haW, haH, hB⟩, ⟨haW, haH⟩, ⟨h0, h0⟩, hbnd⟩, hmem,
    errMatchesStatus_of_noError rfl nofun, fun _ => ?running, nofun⟩
  refine ⟨hg, ⟨hw, hh⟩, ⟨rfl, rfl, rfl⟩, hsize, fun ho => ?_⟩
  obtain ⟨hX, hY⟩ := hbound ho
  exact ⟨⟨hX.ge, hX.trans_le hw⟩, hY.ge, hY.trans_le hh⟩

/-- SizeError moves ERR and STATUS together (60_exceptions.md R118). -/
theorem goodState_raiseSizeError {s : State} (h : GoodState s) : GoodState (raiseSizeError s) := by
  obtain ⟨hp, hreg, hmem, -⟩ := h
  exact ⟨hp, hreg, hmem, ⟨fun _ => rfl, fun _ => rfl⟩, nofun, nofun⟩

/-- Outside BUSY OPR is part of no run, so loading it keeps the invariant (10_state.md R18). -/
theorem goodState_setOpr {s : State} (h : GoodState s) (hs : s.status ≠ .busy) (op : Op) :
    GoodState (s.setOpr op) := by
  obtain ⟨hp, hreg, hmem, herr, -, hgrid⟩ := h
  exact ⟨hp, hreg, hmem, herr, fun hb => absurd hb hs, hgrid⟩

/-- Outside BUSY the bound is part of no run, so setting it keeps the invariant (10_state.md
R19). -/
theorem goodState_setBound {s : State} (h : GoodState s) (hs : s.status ≠ .busy) {x y : Nat}
    (hx : x < 2 ^ s.params.dimW) (hy : y < 2 ^ s.params.dimW) : GoodState (s.setBound x y) := by
  obtain ⟨hp, ⟨hin, hout, hpos, -⟩, hmem, herr, -, hgrid⟩ := h
  exact ⟨hp, ⟨hin, hout, hpos, hx, hy⟩, hmem, herr, fun hb => absurd hb hs, hgrid⟩

/-- An accepted START leaves a good state (42_sequencer.md R87). -/
theorem goodState_startStep {op : Op} {s : State} (h : GoodState s) (hs : s.status ≠ .busy)
    (hg : legalGeometry op s = true) : GoodState (startStep op (s.setOpr op)) := by
  have hopr := goodState_setOpr h hs op
  rcases startStep_cases op (s.setOpr op) with ⟨he, rfl, hsize⟩ | ⟨he, -⟩ | ⟨he, rfl⟩ <;> rw [he]
  · exact goodState_beginRun hopr hg (fun _ => hsize) nofun
  · exact goodState_raiseSizeError hopr
  · obtain ⟨hp, -⟩ := h
    obtain ⟨hdim, -⟩ := (params_legal_iff _).mp hp
    have h1 : Config.boundInit < 2 ^ s.params.dimW := Nat.one_lt_two_pow (by omega)
    exact goodState_beginRun (goodState_setBound hopr hs h1 h1) hg nofun fun _ => ⟨rfl, rfl⟩

theorem goodState_transact {t : Transaction} {s s' : State} (h : GoodState s)
    (ht : transact t s = .next s') : GoodState s' := by
  rcases transact_cases t s s' ht with ⟨v, hv, -, hexec⟩ | ⟨idx, v, r, -, -, hv, hs, rfl⟩
    | ⟨idx, r, -, -, rfl⟩ | ⟨m, id, x, y, w, -, hr, -, rfl⟩ | ⟨m, id, x, y, -, -, rfl⟩
  · rcases command_cases hv hexec with rfl | ⟨op, -, hs, hg, rfl⟩
    · exact h
    · exact goodState_startStep h hs hg
  · exact goodState_storeRegister h hv hs
  · exact goodState_readRegister h r
  · exact goodState_setPixel h id _ hr
  · exact goodState_readCell h id x y

theorem goodState_coreStep {s t : State} (h : GoodState s) (hc : coreStep s = .next t) :
    GoodState t := by
  rcases coreStep_inversion s t hc with ⟨-, rfl⟩ | ⟨hb, -, rfl⟩
  · exact h
  · exact goodState_afterPixel h hb

/-- The events to come are no part of the invariant (log 4). -/
theorem goodState_withPending {s : State} (h : GoodState s) (es : List HostEvent) :
    GoodState { s with pending := es } := h

theorem goodState_happen {e : HostEvent} {s t : State} (h : GoodState s)
    (he : happen e s = .next t) : GoodState t := by
  cases e with
  | bus tr => exact goodState_transact h he
  | reset => cases he; exact goodState_resetState h
  | coreTurn => exact goodState_coreStep h he

/-- Settles O48: a step is the core's turn or one event (`step_cases`), and each of them keeps the
invariant. -/
theorem everyStepKeepsTheInvariant : Obligations.EveryStepKeepsTheInvariant := by
  unfold Obligations.EveryStepKeepsTheInvariant
  intro s t h hstep
  rcases step_cases s t hstep with ⟨-, hcore⟩ | ⟨e, rest, -, hevent⟩
  · exact goodState_coreStep h hcore
  · exact goodState_happen (goodState_withPending h rest) hevent

/-- Every state a run reaches from a good state is good. -/
theorem goodState_runSteps {n : Nat} {s t : State} (h : GoodState s)
    (hrun : runSteps n s = .next t) : GoodState t := by
  induction n generalizing s with
  | zero => cases hrun; exact h
  | succ n ih =>
    obtain ⟨u, hu, hrest⟩ := runSteps_succ_inv n s t hrun
    exact ih (everyStepKeepsTheInvariant s u h hu) hrest

end Sys2Proof.Machine

/-! ### What an operation changes -/

namespace Sys2Proof.Machine

open Sys2Proof.Safety

/-- `s` with the fields an operation may change taken from `t`: STATUS, ERR, the output descriptor,
the scan position, the bound, OPR and the result wires (10_state.md sections 2, 8). -/
abbrev withWorkFields (s t : State) : State :=
  { s with
    status := t.status, err := t.err, oW := t.oW, oH := t.oH, oMode := t.oMode, x := t.x, y := t.y
    boundX := t.boundX, boundY := t.boundY, opr := t.opr, result := t.result }

theorem startCommand_frame {op : Op} {s t : State} (h : startCommand op s = .next t) :
    t = withWorkFields s t := by
  rcases startCommand_cases op s t h with ⟨-, rfl⟩ | ⟨-, -, rfl⟩
  · rfl
  · rcases startStep_cases op (s.setOpr op) with ⟨he, -⟩ | ⟨he, -⟩ | ⟨he, -⟩ <;> rw [he] <;> rfl

/-- A payload operand that is there is handed on (41_pixel_ops.md R80). -/
theorem readPayloadPixel_eq_next {s t : State} {k : Pixel → Outcome}
    (h : readPayloadPixel s k = .next t) : ∃ p, k p = .next t := by
  unfold readPayloadPixel memRead at h
  split at h
  · split at h
    · exact ⟨_, h⟩
    · cases h
  · exact ⟨_, h⟩

/-- Whatever an operation does, it changes the working registers only (10_state.md section 8). -/
theorem exec_frame {i : Instr} {s t : State} (h : exec i s = .next t) : t = withWorkFields s t := by
  cases i with
  | merge => exact startCommand_frame (op := .merge) h
  | unmerge => exact startCommand_frame (op := .unmerge) h
  | sizechk =>
    obtain rfl : (checkSize s).setResult (.bit (sizeOk s)) = t := by cases h; rfl
    unfold checkSize
    split <;> rfl
  | scanAdv =>
    cases h
    rcases scanAdvance_cases s with ⟨-, he⟩ | ⟨-, -, he⟩ | ⟨-, he⟩ <;> rw [he] <;> rfl
  | psel =>
    rw [exec_psel] at h
    obtain ⟨p, hp⟩ := readPayloadPixel_eq_next h
    cases hp; rfl
  | nop0 | nop2 | boundUpd | crop | mergePx | unmergePx | nonblack | hi4 | lo4 | pack | expand
  | mergeCh | unmergeCh => cases h; rfl

/-- Settles O25: an operation changes the working registers only (`exec_frame`), and none of the
listed fields is one of them. -/
theorem operationsKeepTheInputs : Obligations.OperationsKeepTheInputs := by
  unfold Obligations.OperationsKeepTheInputs
  intro i s t h
  rw [exec_frame h]
  exact ⟨⟨rfl, rfl, rfl, rfl, rfl⟩,
    fun id x y => State.pixelAt_congr _ _ _ _ _ (by cases id <;> rfl), rfl, rfl, rfl, rfl⟩

/-! ### The cause of SizeError -/

/-- A start step that ends with ERR = 1 is that of a MERGE whose payload is too large
(60_exceptions.md R118). -/
theorem startStep_sizeError {op : Op} {s : State} (h : (startStep op s).err = .sizeError) :
    op = .merge ∧ sizeOk s = false ∧ (startStep op s).status = .error := by
  rcases startStep_cases op s with ⟨he, -⟩ | ⟨he, hop, hsize⟩ | ⟨he, -⟩ <;> rw [he] at h ⊢
  · cases h
  · exact ⟨hop, hsize, rfl⟩
  · cases h

/-- A transaction that ends with ERR = 1 found it so or was a MERGE whose payload is too large. -/
theorem transact_sizeError {tr : Transaction} {s t : State} (h : transact tr s = .next t)
    (ht : t.err = .sizeError) :
    s.err = .sizeError
    ∨ tr = .wr 0 1 ∧ s.status ≠ .busy ∧ t.status = .error ∧ (s.aW < s.bW ∨ s.aH < s.bH) := by
  rcases transact_cases tr s t h with ⟨v, hv, rfl, hexec⟩ | ⟨idx, v, r, -, -, -, -, rfl⟩
    | ⟨idx, r, -, -, rfl⟩ | ⟨m, id, x, y, w, -, -, -, rfl⟩ | ⟨m, id, x, y, -, -, rfl⟩
  · rcases command_cases hv hexec with rfl | ⟨op, rfl, hs, -, rfl⟩
    · exact .inl ht
    · obtain ⟨rfl, hsize, hstatus⟩ := startStep_sizeError ht
      exact .inr ⟨rfl, hs, hstatus, (sizeOk_eq_false_iff _).mp hsize⟩
  · left; cases r <;> exact ht
  · left; unfold readRegister at ht; split at ht <;> exact ht
  · left; rwa [State.setPixel_err] at ht
  · left; unfold readCell at ht; split at ht <;> exact ht

theorem coreStep_err {s t : State} (h : coreStep s = .next t) : t.err = s.err := by
  rcases coreStep_inversion s t h with ⟨-, rfl⟩ | ⟨-, -, rfl⟩ <;> rfl

/-- Settles O26: the core's turn keeps ERR, a reset clears it, and a transaction raises it in one
case only (`transact_sizeError`). -/
theorem onlyAnOversizePayloadRaises : Obligations.OnlyAnOversizePayloadRaises := by
  unfold Obligations.OnlyAnOversizePayloadRaises
  intro s t hstep ht
  rcases step_cases s t hstep with ⟨-, hcore⟩ | ⟨e, rest, hp, hevent⟩
  · exact .inl ((coreStep_err hcore).symm.trans ht)
  · cases e with
    | bus tr =>
      rcases transact_sizeError hevent ht with herr | ⟨rfl, hcause⟩
      · exact .inl herr
      · exact .inr ⟨⟨rest, hp⟩, hcause⟩
    | reset =>
      obtain rfl : resetState { s with pending := rest } = t := by cases hevent; rfl
      cases ht
    | coreTurn => exact .inl ((coreStep_err hevent).symm.trans ht)

/-! ### One pixel step, field by field -/

/-- The pixel step at the last coordinate of a MERGE run (42_sequencer.md R93). -/
theorem afterPixel_merge_last {s : State} (ho : s.opr = .merge) (hl : isLast s = true) :
    afterPixel s = { s with go := (afterPixel s).go, result := .none, status := .done } := by
  simp [afterPixel, boundAfter, ho, hl]

/-- The pixel step at the last coordinate of an UNMERGE run: the crop (44_unmerge.md R108). -/
theorem afterPixel_unmerge_last {s : State} (ho : s.opr = .unmerge) (hl : isLast s = true) :
    afterPixel s = { s with
      go := (afterPixel s).go, result := .none, boundX := (afterPixel s).boundX
      boundY := (afterPixel s).boundY, oW := (afterPixel s).boundX, oH := (afterPixel s).boundY
      status := .done } := by
  simp [afterPixel, ho, hl]

/-- MERGE leaves the bound alone (10_state.md R19). -/
theorem boundAfter_merge {s : State} (ho : s.opr = .merge) :
    boundAfter s = (s.boundX, s.boundY) := if_neg fun h => by simp [ho] at h

/-- What a pixel step does to the cells of GO (20_memory.md R37). -/
theorem afterPixel_cells (s : State) :
    (afterPixel s).pixelAt .go s.x s.y = outputPixel s
    ∧ ∀ x y, ¬ (x = s.x ∧ y = s.y) → (afterPixel s).pixelAt .go x y = s.pixelAt .go x y :=
  ⟨(afterPixel_pixelAt_go s s.x s.y).trans (if_pos ⟨rfl, rfl⟩),
    fun x y hne => (afterPixel_pixelAt_go s x y).trans (if_neg hne)⟩

theorem outputPixel_merge {s : State} (ho : s.opr = .merge) :
    outputPixel s = stegoPixel (s.pixelAt .ga s.x s.y) (payloadAt s s.x s.y) := by
  simp [outputPixel, ho]

theorem outputPixel_unmerge {s : State} (ho : s.opr = .unmerge) :
    outputPixel s = recoveredPixel (s.pixelAt .ga s.x s.y) := by
  simp [outputPixel, ho]

/-- Where the scan of a good state stands, in the subtractions of 42_sequencer.md R91 (log 15). -/
theorem scanPosition_iff {s : State} (h : GoodState s) (hb : s.status = .busy) :
    (isLast s = true ↔ s.x = s.aW - 1 ∧ s.y = s.aH - 1) ∧ (lastRow s = true ↔ s.y = s.aH - 1) := by
  obtain ⟨hx, hy⟩ := position_inGrid h hb
  rw [isLast_iff, lastRow_iff]
  omega

/-- The pixel step at the end of a column before the last (42_sequencer.md R91). -/
theorem afterPixel_columnEnd {s : State} (h : GoodState s) (hb : s.status = .busy)
    (hX : s.x ≠ s.aW - 1) (hY : s.y = s.aH - 1) :
    afterPixel s = { s with
      go := (afterPixel s).go, result := .none, boundX := (afterPixel s).boundX
      boundY := (afterPixel s).boundY, x := s.x + 1, y := 0 } := by
  obtain ⟨hlast, hrow⟩ := scanPosition_iff h hb
  obtain ⟨-, hnx, -⟩ := busy_facts s h hb
  have hl : isLast s = false := Bool.eq_false_iff.mpr fun hl => hX (hlast.mp hl).1
  simp [afterPixel, hl, hrow.mpr hY, hnx]

/-- The pixel step inside a column (42_sequencer.md R91). -/
theorem afterPixel_inColumn {s : State} (h : GoodState s) (hb : s.status = .busy)
    (hY : s.y ≠ s.aH - 1) :
    afterPixel s = { s with
      go := (afterPixel s).go, result := .none, boundX := (afterPixel s).boundX
      boundY := (afterPixel s).boundY, y := s.y + 1 } := by
  obtain ⟨-, hrow⟩ := scanPosition_iff h hb
  obtain ⟨-, -, hny, -⟩ := busy_facts s h hb
  have hr : lastRow s = false := Bool.eq_false_iff.mpr fun hr => hY (hrow.mp hr)
  simp [afterPixel, isLast, hr, hny]

/-- Settles O30: the step is `afterPixel`, which writes one cell; its three ends are the three
places the scan position can stand at, and a MERGE run keeps the bound. -/
theorem mergePixelStep_spec : Obligations.MergePixelStep := by
  unfold Obligations.MergePixelStep
  intro s h hq hb ho
  obtain ⟨hlast, -⟩ := scanPosition_iff h hb
  obtain ⟨hcell, hother⟩ := afterPixel_cells s
  have hboundX : (afterPixel s).boundX = s.boundX := congrArg Prod.fst (boundAfter_merge ho)
  have hboundY : (afterPixel s).boundY = s.boundY := congrArg Prod.snd (boundAfter_merge ho)
  refine ⟨afterPixel s, step_afterPixel h hq hb, hcell.trans (outputPixel_merge ho), hother,
    fun hX hY => afterPixel_merge_last ho (hlast.mpr ⟨hX, hY⟩), fun hX hY => ?columnEnd,
    fun hY => ?inColumn⟩
  case columnEnd =>
    have hstep := afterPixel_columnEnd h hb hX hY
    rwa [hboundX, hboundY] at hstep
  case inColumn =>
    have hstep := afterPixel_inColumn h hb hY
    rwa [hboundX, hboundY] at hstep

/-- Settles O31: the step is `afterPixel`, which writes one cell and moves the bound when that cell
is lit; its three ends are the three places the scan position can stand at. -/
theorem unmergePixelStep_spec : Obligations.UnmergePixelStep := by
  unfold Obligations.UnmergePixelStep
  intro s h hq hb ho
  obtain ⟨hlast, -⟩ := scanPosition_iff h hb
  obtain ⟨-, hnx, hny, -⟩ := busy_facts s h hb
  obtain ⟨hcell, hother⟩ := afterPixel_cells s
  refine ⟨afterPixel s, step_afterPixel h hq hb, hcell.trans (outputPixel_unmerge ho), hother,
    fun hlit => ?lit, fun hdark => ?dark,
    fun hX hY => afterPixel_unmerge_last ho (hlast.mpr ⟨hX, hY⟩), afterPixel_columnEnd h hb,
    afterPixel_inColumn h hb⟩
  case lit =>
    have hbound := boundAfter_lit ho hlit
    exact ⟨(congrArg Prod.fst hbound).trans hnx, (congrArg Prod.snd hbound).trans hny⟩
  case dark =>
    have hbound := boundAfter_dark hdark
    exact ⟨congrArg Prod.fst hbound, congrArg Prod.snd hbound⟩

/-! ### Pixel steps and their operations -/

/-- Settles O33: where the step does not fault it is `afterPixel`. Its pixel is `outputPixel`, which
PSEL and MERGE_PX, or UNMERGE_PX, make; its bound is `boundAfter`, the choice that NONBLACK makes
between BOUND_UPD and nothing. -/
theorem pixelStepsAreTheirOperations : Obligations.PixelStepsAreTheirOperations := by
  unfold Obligations.PixelStepsAreTheirOperations
  intro s t hq hb hstep
  rw [step_of_pending_nil s hq] at hstep
  rcases coreStep_inversion s t hstep with ⟨hquiet, -⟩ | ⟨-, hcell, rfl⟩
  · exact absurd hb hquiet
  obtain ⟨hpixel, -⟩ := afterPixel_cells s
  refine ⟨fun ho => ?merge, fun ho => ?unmerge⟩
  case merge =>
    rw [outputPixel_merge ho, ← mergePixels_eq] at hpixel
    have hpsel := (exec_psel s).trans (readPayloadPixel_of_inRange s _ hcell)
    exact ⟨_, _, _, _, hpsel, rfl, exec_mergePx _ _ _, rfl, hpixel⟩
  case unmerge =>
    rw [outputPixel_unmerge ho, ← unmergePixel_eq] at hpixel
    have hblack := isNonblack_unmergePixel s s.x s.y
    refine ⟨_, _, _, _, _, exec_unmergePx _ s, rfl, exec_nonblack _ _, rfl, exec_boundUpd _, hpixel,
      fun hlit => ?lit, fun hdark => ?dark⟩
    case lit =>
      have hbound := boundAfter_lit ho (hblack.mp hlit)
      exact ⟨congrArg Prod.fst hbound, congrArg Prod.snd hbound⟩
    case dark =>
      have hbound := boundAfter_dark (s := s) fun hlit => by simp [hblack.mpr hlit] at hdark
      exact ⟨congrArg Prod.fst hbound, congrArg Prod.snd hbound⟩

/-! ### The form of the memories -/

/-- Settles O35: a store keeps the list rising, and rising lists that answer alike are one list. -/
theorem memoryFormIsCanonical : Obligations.MemoryFormIsCanonical :=
  ⟨Memory.write_wf, Memory.ext_of_lookup⟩

/-- A lookup after a store, by the two cases of the cell (20_memory.md R37). -/
theorem lookupCell_storeCell (cs : List PixelCell) (x y a b : Nat) (p : Pixel) :
    lookupCell (storeCell cs x y p) a b =
      if a = x ∧ b = y then some p else lookupCell cs a b := by
  by_cases h : a = x ∧ b = y
  · obtain ⟨rfl, rfl⟩ := h
    rw [lookupCell_storeCell_same, if_pos ⟨rfl, rfl⟩]
  · rw [lookupCell_storeCell_other _ _ _ _ _ _ h, if_neg h]

/-- Settles O36: both orders give canonical memories that answer every lookup alike, because no cell
is the target of both writes; canonical memories that do so are equal. -/
theorem pixelWritesCommute : Obligations.PixelWritesCommute := by
  unfold Obligations.PixelWritesCommute
  intro m x y a b p q hm hne
  have hwf (x y a b : Nat) (p q : Pixel) : ((m.write x y p).write a b q).wf = true :=
    Memory.write_wf _ _ _ _ (Memory.write_wf _ _ _ _ hm)
  refine Memory.ext_of_lookup _ _ (hwf ..) (hwf ..) rfl fun c d => ?_
  simp only [Memory.write, lookupCell_storeCell]
  by_cases hab : c = a ∧ d = b
  · rw [if_pos hab, if_pos hab, if_neg (by omega)]
  · rw [if_neg hab, if_neg hab]

/-! ### Good states step on -/

/-- A command never faults: it is accepted, ignored or refused (42_sequencer.md R87 to R89). -/
theorem command_ne_fault (w : CommandWord) (s : State) (f : Fault) :
    exec (decodeCommand w) s ≠ .fault f := by
  have hstart (op : Op) : startCommand op s ≠ .fault f := by
    unfold startCommand
    split
    · nofun
    · split <;> nofun
  have hw : w = 0 ∨ w = 1 ∨ w = 2 ∨ w = 3 := by revert w; decide
  rcases hw with rfl | rfl | rfl | rfl
  · exact nofun
  · exact hstart .merge
  · exact nofun
  · exact hstart .unmerge

/-- A write of a register other than CTRL: the BUSY rule, else the store (10_state.md R25). -/
theorem writeRegister_of_ne_ctrl {r : Reg} (hr : r ≠ .ctrl) (v : Nat) (s : State) :
    writeRegister r v s = if isInputRegister r && decide (s.status = .busy)
      then .refused .writeWhileBusy else .next (storeRegister r v s) := by
  cases r with
  | ctrl => exact absurd rfl hr
  | status | err | aW | aH | aMode | bW | bH | oW | oH | oMode => rfl

theorem writeRegister_ne_fault (r : Reg) (v : Nat) (s : State) (f : Fault) :
    writeRegister r v s ≠ .fault f := by
  by_cases hr : r = .ctrl
  · subst hr; exact command_ne_fault _ s f
  · rw [writeRegister_of_ne_ctrl hr]
    split <;> nofun

theorem withCell_ne_fault {m : MemorySelect} {x y : Nat} {s : State} {k : GridId → Outcome}
    {f : Fault} (hk : ∀ id, k id ≠ .fault f) : withCell m x y s k ≠ .fault f := by
  unfold withCell
  split
  · nofun
  · split
    · exact hk _
    · nofun

/-- A host transaction never faults: what has no meaning is refused (log 11). -/
theorem transact_ne_fault (tr : Transaction) (s : State) (f : Fault) :
    transact tr s ≠ .fault f := by
  cases tr with
  | wr idx v =>
    simp only [transact]
    split
    · nofun
    · split
      · exact writeRegister_ne_fault _ v s f
      · nofun
  | rd idx =>
    simp only [transact]
    split <;> nofun
  | gwr m x y w =>
    refine withCell_ne_fault fun id => ?_
    unfold writeCell
    split <;> nofun
  | grd m x y => exact withCell_ne_fault fun id => nofun

/-- The core's turn in a good state is a next state: the scan never leaves the memories
(20_memory.md R41). -/
theorem coreStep_stepsOn {s : State} (h : GoodState s) : StepsOn (coreStep s) := by
  by_cases hb : s.status = .busy
  · exact ⟨_, coreStep_afterPixel s hb (busy_facts s h hb).1⟩
  · exact ⟨_, coreStep_quiet s hb⟩

theorem startCommand_stepsOn {op : Op} {s : State}
    (hg : s.status ≠ .busy → legalGeometry op s = true) : StepsOn (startCommand op s) := by
  by_cases hs : s.status = .busy
  · exact ⟨_, startCommand_busy op s hs⟩
  · exact ⟨_, startCommand_accepted op s hs (hg hs)⟩

/-- A write of a register other than CTRL is taken in every status in which the register is not
frozen (10_state.md R25). -/
theorem writeRegister_of_notFrozen {r : Reg} {v : Nat} {s : State} (hr : r ≠ .ctrl)
    (hs : isInputRegister r = true → s.status ≠ .busy) :
    writeRegister r v s = .next (storeRegister r v s) := by
  rw [writeRegister_of_ne_ctrl hr, if_neg]
  simpa using hs

/-- The input registers are those of indices 3 to 7 (10_state.md R24). -/
theorem isInputRegister_iff (r : Reg) : isInputRegister r = true ↔ 3 ≤ r.index ∧ r.index ≤ 7 := by
  cases r <;> decide

/-- A fitting write names a register whose width its value has (10_state.md R25 c, d). -/
theorem registerWriteFits_iff (p : Params) (idx v : Nat) :
    Transaction.registerWriteFits p idx v = true ↔
      ∃ r, Reg.ofIndex idx = some r ∧ v < 2 ^ r.width p := by
  unfold Transaction.registerWriteFits
  split <;> simp [*]

/-- A write of CTRL of a value that fits, with legal geometry where it is a START outside BUSY
(42_sequencer.md R89). -/
theorem writeCtrl_stepsOn {v : Nat} {s : State} (hv : v < 4)
    (hmerge : v = 1 → s.status ≠ .busy → legalGeometry .merge s = true)
    (hunmerge : v = 3 → s.status ≠ .busy → legalGeometry .unmerge s = true) :
    StepsOn (writeRegister .ctrl v s) := by
  interval_cases v
  · exact ⟨s, rfl⟩
  · exact startCommand_stepsOn (op := .merge) (hmerge rfl)
  · exact ⟨s, rfl⟩
  · exact startCommand_stepsOn (op := .unmerge) (hunmerge rfl)

/-- A port access whose form is legal reaches its cell (30_encoding.md R66 c, 20_memory.md R41). -/
theorem withCell_stepsOn {m : MemorySelect} {x y : Nat} {s : State} {k : GridId → Outcome}
    (hm : (GridId.ofSelect m).isSome = true) (hr : s.params.inRange x y = true)
    (hk : ∀ id, StepsOn (k id)) : StepsOn (withCell m x y s k) := by
  obtain ⟨id, hid⟩ := Option.isSome_iff_exists.mp hm
  rw [← (ofSelect_eq_some_iff m id).mp hid, withCell_select id x y s k hr]
  exact hk id

/-- A transaction of a host that keeps its duties is answered by a next state
(70_reset_and_hazards.md R132, R134). -/
theorem transact_stepsOn {s : State} {tr : Transaction} {rest : List HostEvent}
    (hp : s.pending = .bus tr :: rest) (hd : hostKeepsDuties s) :
    StepsOn (transact tr { s with pending := rest }) := by
  obtain ⟨hwf, hinput, hcells, hmerge, hunmerge⟩ := hd tr rest hp
  cases tr with
  | wr idx v =>
    obtain ⟨r, hi, hv⟩ := (registerWriteFits_iff s.params idx v).mp hwf
    obtain rfl := (ofIndex_eq_some_iff idx r).mp hi
    rw [transact_wr { s with pending := rest } _ v r hi hv]
    by_cases hr : r = .ctrl
    · subst hr
      exact writeCtrl_stepsOn hv (fun h => hmerge (h ▸ rfl)) (fun h => hunmerge (h ▸ rfl))
    · refine ⟨_, writeRegister_of_notFrozen hr fun hin hb => ?_⟩
      have := (isInputRegister_iff r).mp hin
      have := hinput r.index v rfl hb
      omega
  | rd idx =>
    obtain ⟨r, hi⟩ := Option.isSome_iff_exists.mp hwf
    exact ⟨_, transact_rd _ idx r hi⟩
  | gwr m x y w =>
    obtain ⟨hm, hr⟩ := Bool.and_eq_true_iff.mp hwf
    exact withCell_stepsOn hm hr fun id => ⟨_, if_neg (hcells m x y w rfl)⟩
  | grd m x y =>
    obtain ⟨hm, hr⟩ := Bool.and_eq_true_iff.mp hwf
    exact withCell_stepsOn hm hr fun id => ⟨_, rfl⟩

/-- With an event waiting a step is that event, taken off the queue (log 4). -/
theorem step_of_pending_cons {s : State} {e : HostEvent} {rest : List HostEvent}
    (hp : s.pending = e :: rest) : step s = happen e { s with pending := rest } := by
  rw [step, nextEvent, hp]

/-- Settles O50: the core's turn and a reset are next states, a transaction never faults
(`transact_ne_fault`), and one that keeps the duties is not refused (`transact_stepsOn`). -/
theorem goodStatesStepOn : Obligations.GoodStatesStepOn := by
  unfold Obligations.GoodStatesStepOn
  intro s h
  have hcore {u : State} (hu : GoodState u) (f : Fault) : coreStep u ≠ .fault f := by
    obtain ⟨t, ht⟩ := coreStep_stepsOn hu
    rw [ht]; nofun
  cases hp : s.pending with
  | nil =>
    rw [step_of_pending_nil s hp]
    exact ⟨hcore h, fun _ => coreStep_stepsOn h⟩
  | cons e rest =>
    rw [step_of_pending_cons hp]
    cases e with
    | bus tr => exact ⟨transact_ne_fault tr _, transact_stepsOn hp⟩
    | reset => exact ⟨nofun, fun _ => ⟨_, rfl⟩⟩
    | coreTurn => exact ⟨hcore (goodState_withPending h rest),
        fun _ => coreStep_stepsOn (goodState_withPending h rest)⟩

end Sys2Proof.Machine

/-! ### The pixel steps a run has left -/

namespace Sys2Proof.Machine

open Sys2Proof.Safety

/-- The steps a run has left are the coordinates from the scan position on (42_sequencer.md R90). -/
theorem scanIndex_add_stepsLeft {s : State} (h : GoodState s) (hb : s.status = .busy) :
    scanIndex s + stepsLeft s = s.aW * s.aH ∧ 0 < stepsLeft s := by
  obtain ⟨hx, hy⟩ := position_inGrid h hb
  obtain ⟨d, hd⟩ : ∃ d, s.aW = s.x + 1 + d := ⟨s.aW - (s.x + 1), by omega⟩
  have hleft : stepsLeft s = s.aH + d * s.aH - s.y := by
    rw [stepsLeft, hd, show s.x + 1 + d - s.x = 1 + d by omega, Nat.add_mul, Nat.one_mul]
  have hall : s.aW * s.aH = s.x * s.aH + s.aH + d * s.aH := by
    rw [hd, Nat.add_mul, Nat.add_mul, Nat.one_mul]
  rw [hleft, hall, scanIndex]
  omega

/-- The run is at its last coordinate when one step is left (42_sequencer.md R91). -/
theorem isLast_iff_stepsLeft {s : State} (h : GoodState s) (hb : s.status = .busy) :
    isLast s = true ↔ stepsLeft s = 1 := by
  obtain ⟨hx, hy⟩ := position_inGrid h hb
  obtain ⟨hsum, -⟩ := scanIndex_add_stepsLeft h hb
  rw [isLast_iff, ← scanIndex_last_iff hx hy, ← hsum, scanIndex]
  omega

theorem stepsLeft_afterPixel {s : State} (h : GoodState s) (hb : s.status = .busy)
    (hl : isLast s = false) : stepsLeft (afterPixel s) + 1 = stepsLeft s := by
  have hb' : (afterPixel s).status = .busy := (afterPixel_status_of_notLast hl).trans hb
  obtain ⟨hsum, -⟩ := scanIndex_add_stepsLeft h hb
  obtain ⟨hsum', -⟩ := scanIndex_add_stepsLeft (goodState_afterPixel h hb) hb'
  have harea : (afterPixel s).aW * (afterPixel s).aH = s.aW * s.aH := rfl
  rw [scanIndex_afterPixel h hb hl, harea] at hsum'
  omega

/-- `t` stands in the run that is in progress in `s`, `k` turns of the core later. -/
structure TurnsOnward (s t : State) (k : Nat) : Prop where
  good : GoodState t
  busy : t.status = .busy
  left : stepsLeft t + k = stepsLeft s

/-- The core left alone stays in BUSY until its last pixel step (42_sequencer.md R94). -/
theorem coreTurns_busy {s : State} (h : GoodState s) (hb : s.status = .busy) (k : Nat)
    (hk : k < stepsLeft s) : ∃ t, coreTurns k s = .next t ∧ TurnsOnward s t k := by
  induction k generalizing s with
  | zero => exact ⟨s, rfl, h, hb, rfl⟩
  | succ k ih =>
    have hl : isLast s = false := by
      rw [Bool.eq_false_iff, ne_eq, isLast_iff_stepsLeft h hb]; omega
    have hleft := stepsLeft_afterPixel h hb hl
    have hb' : (afterPixel s).status = .busy := (afterPixel_status_of_notLast hl).trans hb
    obtain ⟨t, hturns, hgood, hbusy, hleft'⟩ := ih (goodState_afterPixel h hb) hb' (by omega)
    refine ⟨t, ?_, hgood, hbusy, by omega⟩
    rw [coreTurns_succ k s _ (coreStep_afterPixel s hb (busy_facts s h hb).1), hturns]

/-- Turns of the core, one group after another. -/
theorem coreTurns_add {m n : Nat} {s t : State} (h : coreTurns m s = .next t) :
    coreTurns (m + n) s = coreTurns n t := by
  induction m generalizing s with
  | zero => cases h; rw [Nat.zero_add]
  | succ m ih =>
    obtain ⟨u, hu, hrest⟩ := (andThen_eq_next _ _ _).mp h
    rw [Nat.succ_add, coreTurns_succ _ s u hu, ih hrest]

/-- The core left alone ends its run in DONE with the last pixel step (42_sequencer.md R93, R94). -/
theorem coreTurns_stepsLeft {s : State} (h : GoodState s) (hb : s.status = .busy) :
    ∃ t, coreTurns (stepsLeft s) s = .next t ∧ t.status = .done := by
  obtain ⟨-, hpos⟩ := scanIndex_add_stepsLeft h hb
  obtain ⟨u, hturns, hu⟩ := coreTurns_busy h hb (stepsLeft s - 1) (by omega)
  have hleft := hu.left
  have hl : isLast u = true := (isLast_iff_stepsLeft hu.good hu.busy).mpr (by omega)
  have hlast : coreTurns 1 u = .next (afterPixel u) := coreTurns_succ 0 u _
    (coreStep_afterPixel u hu.busy (busy_facts u hu.good hu.busy).1)
  have hsplit : stepsLeft s = stepsLeft s - 1 + 1 := by omega
  exact ⟨afterPixel u, by rw [hsplit, coreTurns_add hturns, hlast], afterPixel_status_of_last hl⟩

theorem coreStep_pending {s t : State} (h : coreStep s = .next t) : t.pending = s.pending := by
  rcases coreStep_inversion s t h with ⟨-, rfl⟩ | ⟨-, -, rfl⟩ <;> rfl

/-- With no event waiting the machine's steps are the core's turns (log 4). -/
theorem runSteps_of_coreTurns {n : Nat} {s t : State} (hq : s.pending = [])
    (h : coreTurns n s = .next t) : runSteps n s = .next t := by
  induction n generalizing s with
  | zero => exact h
  | succ n ih =>
    obtain ⟨u, hu, hrest⟩ := (andThen_eq_next _ _ _).mp h
    rw [runSteps_succ n s u ((step_of_pending_nil s hq).trans hu),
      ih ((coreStep_pending hu).trans hq) hrest]

/-- Settles O51: the steps are the core's turns (`runSteps_of_coreTurns`), which stay in BUSY before
the last pixel step and reach DONE with it. -/
theorem runsTerminate : Obligations.RunsTerminate := by
  unfold Obligations.RunsTerminate
  refine fun s h hq hb => ⟨fun k hk => ?before, ?last⟩
  case before =>
    obtain ⟨t, hturns, ht⟩ := coreTurns_busy h hb k hk
    exact ⟨t, runSteps_of_coreTurns hq hturns, ht.busy⟩
  case last =>
    obtain ⟨t, hturns, hdone⟩ := coreTurns_stepsLeft h hb
    exact ⟨t, runSteps_of_coreTurns hq hturns, hdone⟩

/-! ### WAIT -/

/-- The core does not look at the last reply (log 5). -/
theorem coreStep_setReply {s t : State} (r : HostReply) (h : coreStep s = .next t) :
    coreStep (s.setReply r) = .next (t.setReply r) := by
  rcases coreStep_inversion s t h with ⟨hb, rfl⟩ | ⟨hb, hcell, rfl⟩
  · exact coreStep_quiet _ hb
  · exact coreStep_afterPixel (s.setReply r) hb hcell

theorem coreTurns_setReply {n : Nat} {s t : State} (r : HostReply) (h : coreTurns n s = .next t) :
    coreTurns n (s.setReply r) = .next (t.setReply r) := by
  induction n generalizing s with
  | zero => cases h; rfl
  | succ n ih =>
    obtain ⟨u, hu, hrest⟩ := (andThen_eq_next _ _ _).mp h
    rw [coreTurns_succ n _ _ (coreStep_setReply r hu), ih hrest]

/-- Once the run has ended the first poll is the last, and it reads 2 (10_state.md R20). -/
theorem waitPolls_done (gaps : List Nat) {t : State} (hd : t.status = .done) :
    waitPolls gaps t = .next { t with reply := .register 2 } := by
  have hcode : statusCode t.status = 2 := by rw [hd]; rfl
  rw [waitPolls_quiet gaps t (by simp [hd]), hcode]
  rfl

/-- Polls with enough turns between them end in the state the steps left lead to (30_encoding.md
R70, 42_sequencer.md R94). -/
theorem waitPolls_finishes {gaps : List Nat} {s t : State} (h : GoodState s)
    (hb : s.status = .busy) (hgaps : stepsLeft s ≤ gaps.sum)
    (hturns : coreTurns (stepsLeft s) s = .next t) (hd : t.status = .done) :
    waitPolls gaps s = .next { t with reply := .register 2 } := by
  induction gaps generalizing s t with
  | nil =>
    obtain ⟨-, hpos⟩ := scanIndex_add_stepsLeft h hb
    rw [List.sum_nil] at hgaps
    omega
  | cons n gaps ih =>
    rw [List.sum_cons] at hgaps
    have hturns' := coreTurns_setReply (.register 1) hturns
    have hgood := goodState_setReply h (.register 1)
    rw [waitPolls_busy n gaps s hb]
    by_cases hn : n < stepsLeft s
    · obtain ⟨u, hu, hugood, hubusy, huleft⟩ :=
        coreTurns_busy (s := s.setReply (.register 1)) hgood hb n hn
      have hleft : stepsLeft s = n + stepsLeft u := by
        rw [Nat.add_comm]; exact huleft.symm
      rw [hleft, coreTurns_add hu] at hturns'
      rw [hu, andThen_next, ih hugood hubusy (by omega) hturns' hd]
      rfl
    · obtain ⟨d, rfl⟩ : ∃ d, n = stepsLeft s + d := ⟨n - stepsLeft s, by omega⟩
      have hquiet : (t.setReply (.register 1)).status ≠ .busy := by simp [hd]
      rw [coreTurns_add hturns', coreTurns_quiet d _ hquiet, andThen_next,
        waitPolls_done gaps (t := t.setReply (.register 1)) hd]
      rfl

/-- Settles O60: outside BUSY the first poll is the last; in BUSY the polls past the numbers given
leave at least A_W * A_H turns, which no run outlasts (`waitPolls_finishes`). -/
theorem waitEndsOutsideBusy : Obligations.WaitEndsOutsideBusy := by
  unfold Obligations.WaitEndsOutsideBusy
  refine fun gaps s h => ⟨fun hb => ?quiet, fun hb => ?busy⟩
  case quiet =>
    rw [wait, waitPolls_quiet _ s hb, statusCode_eq_statusValue]
    rfl
  case busy =>
    obtain ⟨t, hturns, hdone⟩ := coreTurns_stepsLeft h hb
    obtain ⟨hsum, -⟩ := scanIndex_add_stepsLeft h hb
    have hgaps : stepsLeft s ≤ (gaps ++ List.replicate (s.aW * s.aH) 1).sum := by
      rw [List.sum_append, List.sum_replicate, smul_eq_mul]
      omega
    exact ⟨t, hturns, hdone, waitPolls_finishes h hb hgaps hturns hdone⟩

end Sys2Proof.Machine

/-! ### The results of the two runs -/

namespace Sys2Proof.Machine

open Sys2Proof.Safety

/-- A launch that comes to its result has passed every coordinate of its grid (43_merge.md R100,
44_unmerge.md R111). -/
theorem exists_runResult_progress {op : Op} {s : State} (hl : s.params.legal = true)
    (hs : s.status ≠ .busy) (hp : s.pending = [.bus (.wr 0 (startWord op))])
    (hg : legalGeometry op s = true) (hfit : op = .merge → sizeOk s = true) :
    ∃ t, runSteps (1 + s.aW * s.aH) s = .next t ∧ RunResult op s t
      ∧ Progress (runBegin op s) t s.aW 0 := by
  obtain ⟨t, hrun, hresult⟩ := exists_runResult hl hs hp hg hfit
  obtain ⟨u, hrun', -, hprogress, -⟩ := (runStart_runBegin hl hg).finishes
  have hsame : runSteps (1 + s.aW * s.aH) s = .next u := by
    rw [Nat.add_comm, runSteps_succ _ s _ (step_runBegin hs hp hg hfit)]
    exact hrun'
  rw [hrun] at hsame
  cases hsame
  exact ⟨t, hrun, hresult, hprogress⟩

/-- A run leaves its inputs alone (10_state.md section 8). -/
theorem Progress.inputs {op : Op} {s t : State} {X Y : Nat} (h : Progress (runBegin op s) t X Y) :
    t.ga = s.ga ∧ t.gb = s.gb
    ∧ t.aW = s.aW ∧ t.aH = s.aH ∧ t.aMode = s.aMode ∧ t.bW = s.bW ∧ t.bH = s.bH := by
  rw [h.frame]
  exact ⟨rfl, rfl, rfl, rfl, rfl, rfl, rfl⟩

/-- A run leaves the cells of GO outside its window alone (20_memory.md R37). -/
theorem Progress.outside {op : Op} {s t : State} (h : Progress (runBegin op s) t s.aW 0) {x y : Nat}
    (hout : ¬ (x < s.aW ∧ y < s.aH)) : t.pixelAt .go x y = s.pixelAt .go x y := by
  refine (h.pixels x y).trans (if_neg fun ⟨hy, hbefore⟩ => hout ⟨?_, hy⟩)
  rw [before_iff] at hbefore
  omega

/-- Settles O53: a payload that does not fit ends the launch in its first step (`step_sizeError`);
one that fits comes to the result of the run, whose progress says what it left alone. -/
theorem mergeRunResult : Obligations.MergeRunResult := by
  unfold Obligations.MergeRunResult
  rintro s ⟨hl, -⟩ hp hs hg
  refine ⟨fun hlarge => ?tooLarge, fun hw hh => ?fits⟩
  case tooLarge =>
    have hstep := step_sizeError hs hp hg ((sizeOk_eq_false_iff s).mpr hlarge)
    exact ⟨_, runSteps_succ 0 s _ hstep, rfl, rfl⟩
  case fits =>
    obtain ⟨t, hrun, hresult, hprogress⟩ := exists_runResult_progress (op := .merge) hl hs hp hg
      fun _ => (sizeOk_iff s).mpr ⟨hw, hh⟩
    obtain ⟨hoW, hoH⟩ := hresult.mergeSize rfl
    exact ⟨t, hrun, hresult.status, hresult.err, hoW, hoH, hresult.mode, hresult.pixels,
      fun x y => hprogress.outside, hprogress.inputs⟩

/-- Settles O54: the launch comes to the result of the run; the cropped window lies inside the grid,
so every pixel of it is recovered. -/
theorem unmergeRunResult : Obligations.UnmergeRunResult := by
  unfold Obligations.UnmergeRunResult
  rintro s ⟨hl, -⟩ hp hs hg
  obtain ⟨t, hrun, hresult, hprogress⟩ :=
    exists_runResult_progress (op := .unmerge) hl hs hp hg nofun
  obtain ⟨hoW, hoH⟩ := hresult.inGrid
  exact ⟨t, hrun, hresult.status, hresult.err, hresult.mode, hresult.unmergeSize rfl,
    fun x y hx hy => hresult.pixels x y (hx.trans_le hoW) (hy.trans_le hoH), hprogress.inputs⟩

/-- A pixel whose every low nibble is 0 is recovered black (44_unmerge.md R114). -/
theorem recoveredPixel_of_dark {s : State} {x y : Nat} (h : ¬ litAt s x y) :
    recoveredPixel (s.pixelAt .ga x y) = ⟨0, 0, 0⟩ := by
  simp only [litAt, not_or, not_not] at h
  obtain ⟨hr, hg, hb⟩ := h
  rw [recoveredPixel, (recoveredLane_eq_zero _).mpr hr, (recoveredLane_eq_zero _).mpr hg,
    (recoveredLane_eq_zero _).mpr hb]

/-- Settles O55: without a lit pixel the closed form of the bound is (1, 1), and the one pixel left
is recovered black. -/
theorem blackImageCropsToOnePixel : Obligations.BlackImageCropsToOnePixel := by
  unfold Obligations.BlackImageCropsToOnePixel
  intro s h hp hs hg hdark
  obtain ⟨t, hrun, hdone, -, -, ⟨hnone, -⟩, hpixels, -⟩ := unmergeRunResult s h hp hs hg
  obtain ⟨hoW, hoH⟩ := hnone hdark
  obtain ⟨⟨hw, -⟩, ⟨hh, -⟩, -⟩ := (legalGeometry_iff _ _).mp hg
  refine ⟨t, hrun, hdone, hoW, hoH, ?_⟩
  rw [hpixels 0 0 (by omega) (by omega), recoveredPixel_of_dark (hdark 0 0 hw hh)]

/-! ### COPYOUT -/

/-- `t` is `s` after a COPYOUT has copied the cells of a list: those cells of GA hold what GO holds
there, and nothing else of the core has changed. -/
structure Copied (cells : List (Nat × Nat)) (s t : State) : Prop where
  frame : t = { s with ga := t.ga, reply := t.reply }
  pixels : ∀ x y, t.pixelAt .ga x y =
    if (x, y) ∈ cells then s.pixelAt .go x y else s.pixelAt .ga x y

/-- In DONE a cell of the window is read as it is held (44_unmerge.md R109). -/
theorem outputCellIsDrawn_inWindow {s : State} (hd : s.status = .done) {x y : Nat}
    (hx : x < s.oW) (hy : y < s.oH) : outputCellIsDrawn s x y = false := by
  simp [outputCellIsDrawn, hd, hx, hy]

/-- One cell of COPYOUT: the pixel read is the pixel written (30_encoding.md R70). -/
theorem exists_copyCell {s : State} (hd : s.status = .done) {x y : Nat} (hx : x < s.oW)
    (hy : y < s.oH) (hr : s.params.inRange x y = true) :
    ∃ t, copyCell x y s = .next t ∧ Copied [(x, y)] s t := by
  have hread : transact (.grd 0b10 x y) s =
      .next (s.setReply (.pixel (wordOfPixel (s.pixelAt .go x y)))) := by
    rw [← readCell_plain .go x y s (.inr (outputCellIsDrawn_inWindow hd hx hy))]
    exact transact_grd s .go x y hr
  have hwrite (u : State) (hu : u.status ≠ .busy) (hcell : u.params.inRange x y = true) :
      transact (.gwr 0b00 x y (wordOfPixel (s.pixelAt .go x y))) u =
        .next (u.setPixel .ga x y (s.pixelAt .go x y)) := by
    refine (transact_gwr u .ga x y _ hcell).trans ?_
    rw [writeCell, if_neg hu, pixelOfWord_wordOfPixel]
  refine ⟨(s.setReply (.pixel (wordOfPixel (s.pixelAt .go x y)))).setPixel .ga x y
    (s.pixelAt .go x y), ?_, rfl, fun a b => ?_⟩
  · rw [copyCell, hread, andThen_next]
    exact hwrite _ (by simp [hd]) hr
  · rw [State.pixelAt_setPixel]
    by_cases he : (a, b) = (x, y)
    · obtain ⟨rfl, rfl⟩ := Prod.mk.inj he
      simp
    · rw [if_neg (by simpa using he), if_neg (by simpa using he)]
      rfl

/-- Copying a cell and then others copies them all: GO, which is read, is never written. -/
theorem Copied.cons {c : Nat × Nat} {cells : List (Nat × Nat)} {s u t : State}
    (hc : Copied [c] s u) (h : Copied cells u t) : Copied (c :: cells) s t where
  frame := calc
    t = { u with ga := t.ga, reply := t.reply } := h.frame
    _ = { s with ga := t.ga, reply := t.reply } := by rw [hc.frame]
  pixels x y := by
    have hgo : u.pixelAt .go x y = s.pixelAt .go x y := by rw [hc.frame]; rfl
    rw [h.pixels, hc.pixels, hgo]
    by_cases hmem : (x, y) ∈ cells
    · rw [if_pos hmem, if_pos (List.mem_cons_of_mem c hmem)]
    · rw [if_neg hmem]
      exact if_congr (by simp [hmem]) rfl rfl

/-- The cells of COPYOUT, where the result window lies in the memories. -/
theorem exists_copyCells {cells : List (Nat × Nat)} {s : State} (hd : s.status = .done)
    (hW : s.oW ≤ s.params.maxW) (hH : s.oH ≤ s.params.maxH)
    (hin : ∀ c ∈ cells, c.1 < s.oW ∧ c.2 < s.oH) :
    ∃ t, copyCells cells s = .next t ∧ Copied cells s t := by
  induction cells generalizing s with
  | nil => exact ⟨s, rfl, rfl, fun x y => by simp⟩
  | cons c cells ih =>
    obtain ⟨⟨hx, hy⟩, hrest⟩ := List.forall_mem_cons.mp hin
    obtain ⟨u, hcell, hu⟩ := exists_copyCell hd hx hy
      ((inRange_iff _ _ _).mpr ⟨hx.trans_le hW, hy.trans_le hH⟩)
    obtain ⟨hstatus, hparams, hoW, hoH⟩ : u.status = s.status ∧ u.params = s.params
        ∧ u.oW = s.oW ∧ u.oH = s.oH := by rw [hu.frame]; exact ⟨rfl, rfl, rfl, rfl⟩
    rw [← hoW, ← hoH] at hrest
    obtain ⟨t, hcells, ht⟩ := ih (hstatus.trans hd) (by rwa [hparams, hoW])
      (by rwa [hparams, hoH]) hrest
    exact ⟨t, by rw [copyCells, hcell, andThen_next, hcells], hu.cons ht⟩

theorem mem_rectangle (w h x y : Nat) : (x, y) ∈ rectangle w h ↔ x < w ∧ y < h := by
  simp [rectangle]

/-- A read of a register by the host hands on what it holds, where that is no draw
(10_state.md R25 b). -/
theorem hostRead_eq {idx : Nat} {r : Reg} (hi : Reg.ofIndex idx = some r) {s : State}
    (hs : s.status ≠ .busy) (k : Nat → State → Outcome) : hostRead idx s k =
      k (s.readRegister r) (s.setReply (.register (s.readRegister r))) := by
  rw [hostRead, transact_rd s idx r hi, readRegister_plain r s (.inr hs), andThen_next]
  rfl

/-- A write of a register other than CTRL outside BUSY, of a value that fits (10_state.md R25). -/
theorem transact_wr_quiet {s : State} {idx v : Nat} {r : Reg} (hi : Reg.ofIndex idx = some r)
    (hr : r ≠ .ctrl) (hs : s.status ≠ .busy) (hv : v < 2 ^ r.width s.params) :
    transact (.wr idx v) s = .next (storeRegister r v s) :=
  (transact_wr s idx v r hi hv).trans (writeRegister_quiet r v s hr hs)

/-- SETA outside BUSY, of values that fit (30_encoding.md R70). -/
theorem transactAll_setA {s : State} (hs : s.status ≠ .busy) {w h : Nat} {m : ModeTag}
    (hw : w < 2 ^ s.params.dimW) (hh : h < 2 ^ s.params.dimW) :
    transactAll (setA w h m.toNat) s = .next { s with aW := w, aH := h, aMode := m } := by
  have haW : transact (.wr 3 w) s = .next { s with aW := w } :=
    transact_wr_quiet (r := .aW) rfl nofun hs hw
  have haH : transact (.wr 4 h) { s with aW := w } = .next { s with aW := w, aH := h } :=
    transact_wr_quiet (r := .aH) rfl nofun hs hh
  have hmode : transact (.wr 5 m.toNat) { s with aW := w, aH := h } =
      .next { s with aW := w, aH := h, aMode := BitVec.ofNat 8 m.toNat } :=
    transact_wr_quiet (r := .aMode) rfl nofun hs m.isLt
  rw [BitVec.ofNat_toNat, BitVec.setWidth_eq] at hmode
  rw [setA, transactAll, haW, andThen_next, transactAll, haH, andThen_next, transactAll, hmode]
  rfl

/-- Settles O56: the three reads give the output descriptor, the cells of its window are copied one
by one (`exists_copyCells`), and SETA loads the A descriptor. -/
theorem copyOutCopiesTheResult : Obligations.CopyOutCopiesTheResult := by
  unfold Obligations.CopyOutCopiesTheResult
  intro s h hd
  obtain ⟨-, ⟨-, ⟨hoW, hoH⟩, -⟩, -, -, -, hgrid⟩ := h
  obtain ⟨⟨-, hW⟩, -, hH⟩ := hgrid hd
  have hs : s.status ≠ .busy := by simp [hd]
  obtain ⟨t, hcells, ht⟩ := exists_copyCells (cells := rectangle s.oW s.oH)
    (s := s.setReply (.register s.oMode.toNat)) hd hW hH fun c hc => (mem_rectangle _ _ _ _).mp hc
  have hcopy : copyOut s = .next { t with aW := s.oW, aH := s.oH, aMode := s.oMode } := by
    have hset : transactAll (setA s.oW s.oH s.oMode.toNat) t =
        .next { t with aW := s.oW, aH := s.oH, aMode := s.oMode } := by
      apply transactAll_setA <;> rw [ht.frame]
      exacts [hs, hoW, hoH]
    rw [copyOut, hostRead_eq (r := .oW) rfl hs, hostRead_eq (r := .oH) rfl (by exact hs),
      hostRead_eq (r := .oMode) rfl (by exact hs)]
    exact (congrArg (andThen · _) hcells).trans hset
  have hpixel (x y : Nat) : t.pixelAt .ga x y =
      if x < s.oW ∧ y < s.oH then s.pixelAt .go x y else s.pixelAt .ga x y :=
    (ht.pixels x y).trans (if_congr (mem_rectangle _ _ _ _) rfl rfl)
  refine ⟨_, hcopy, rfl, rfl, rfl, fun x y hx hy => (hpixel x y).trans (if_pos ⟨hx, hy⟩),
    fun x y hout => (hpixel x y).trans (if_neg hout), ?frame⟩
  rw [ht.frame]
  rfl

end Sys2Proof.Machine

/-! ### The round trip -/

namespace Sys2Proof.Safety

/-- Where every lit pixel lies in a payload, the bound does not reach past it, or past one pixel
(44_unmerge.md R110, R115). -/
theorem IsCropBound_le_max {nb : Nat → Nat → Prop} {w h a b bW bH : Nat}
    (hnb : ∀ x y, nb x y → x < bW ∧ y < bH) (hb : IsCropBound nb w h a b) :
    a ≤ max bW 1 ∧ b ≤ max bH 1 := by
  by_cases hno : ∀ x y, x < w → y < h → ¬ nb x y
  · obtain ⟨rfl, rfl⟩ := hb.1 hno
    exact ⟨le_max_right _ _, le_max_right _ _⟩
  · simp only [not_forall, not_not] at hno
    obtain ⟨x, y, hx, hy, hn⟩ := hno
    obtain ⟨xs, ys, hxs, hys, hn', hmaxX, hmaxY⟩ := cropCorner_exists nb w h x y hx hy hn
    obtain ⟨rfl, rfl⟩ := hb.2 xs ys hxs hys hn' hmaxX hmaxY
    obtain ⟨hX, hY⟩ := hnb xs ys hn'
    exact ⟨le_max_of_le_left hX, le_max_of_le_left hY⟩

end Sys2Proof.Safety

namespace Sys2Proof.Machine

open Sys2Proof.Safety

/-- A stego lane hides something exactly when the payload lane has a high nibble
(40_channel_datapath.md R76). -/
theorem stegoLane_low_ne_zero (c p : Byte) : stegoLane c p &&& 0x0F#8 ≠ 0 ↔ 16 ≤ p.toNat := by
  have hzero : stegoLane c p &&& 0x0F#8 = 0 ↔ (stegoLane c p &&& 0x0F#8).toNat = 0 :=
    BitVec.toNat_eq
  have := p.isLt
  rw [ne_eq, hzero, byte_and_low, stegoLane_toNat]
  omega

/-- The pixel round trip (41_pixel_ops.md R84). -/
theorem recoveredPixel_stegoPixel (c p : Pixel) :
    recoveredPixel (stegoPixel c p) = keptPixel p := by
  simp only [recoveredPixel, stegoPixel, keptPixel, recoveredLane_stegoLane]

/-- A payload pixel that survives the round trip (44_unmerge.md R115). -/
def survivesAt (s : State) (x y : Nat) : Prop :=
  (x < s.bW ∧ y < s.bH) ∧ (16 ≤ (s.pixelAt .gb x y).r.toNat
    ∨ 16 ≤ (s.pixelAt .gb x y).g.toNat ∨ 16 ≤ (s.pixelAt .gb x y).b.toNat)

/-- A stego pixel is lit exactly when its payload pixel survives, whatever its carrier
(44_unmerge.md R110, R115). -/
theorem litAt_iff_survivesAt {s u : State} {x y : Nat} {c : Pixel}
    (h : u.pixelAt .ga x y = stegoPixel c (payloadAt s x y)) : litAt u x y ↔ survivesAt s x y := by
  simp only [litAt, h, stegoPixel, stegoLane_low_ne_zero, survivesAt]
  unfold payloadAt
  by_cases hin : x < s.bW ∧ y < s.bH
  · rw [if_pos hin, and_iff_right hin]
  · rw [if_neg hin]
    simp [hin]

/-- `c` holds in GA the stego image that MERGE makes of the operands of `s`, ready to be
unmerged. -/
structure HoldsStego (s c : State) : Prop where
  params : c.params.legal = true
  quiet : c.status ≠ .busy
  aW : c.aW = s.aW
  aH : c.aH = s.aH
  aMode : c.aMode = s.aMode
  pixels : ∀ x y, x < s.aW → y < s.aH →
    c.pixelAt .ga x y = stegoPixel (s.pixelAt .ga x y) (payloadAt s x y)

/-- MERGE leaves the stego image in GO, and COPYOUT moves it to GA (43_merge.md R100, 30_encoding.md
R70). -/
theorem holdsStego_of_merge_copyOut {s m c : State} (h : GoodState s)
    (hp : s.pending = [.bus (.wr 0 1)]) (hs : s.status ≠ .busy)
    (hg : legalGeometry .merge s = true) (hW : s.bW ≤ s.aW) (hH : s.bH ≤ s.aH)
    (hmerge : runSteps (1 + s.aW * s.aH) s = .next m) (hcopy : copyOut m = .next c) :
    HoldsStego s c := by
  obtain ⟨-, hfits⟩ := mergeRunResult s h hp hs hg
  obtain ⟨m', hmerge', hdone, -, hmW, hmH, hmMode, hmPixels, -⟩ := hfits hW hH
  obtain rfl : m' = m := Host.Outcome.next.inj (hmerge'.symm.trans hmerge)
  have hm : GoodState m' := goodState_runSteps h hmerge
  obtain ⟨c', hcopy', hcW, hcH, hcMode, hcPixels, -, hframe⟩ := copyOutCopiesTheResult m' hm hdone
  obtain rfl : c' = c := Host.Outcome.next.inj (hcopy'.symm.trans hcopy)
  obtain ⟨hparams, hstatus⟩ : c'.params = m'.params ∧ c'.status = m'.status := by
    rw [hframe]; exact ⟨rfl, rfl⟩
  obtain ⟨hl, -⟩ := hm
  exact
    { params := hparams ▸ hl
      quiet := by simp [hstatus, hdone]
      aW := hcW.trans hmW
      aH := hcH.trans hmH
      aMode := hcMode.trans hmMode
      pixels := fun x y hx hy =>
        (hcPixels x y (hmW ▸ hx) (hmH ▸ hy)).trans (hmPixels x y hx hy) }

namespace HoldsStego

variable {s c r : State}

/-- An UNMERGE of the stego image that runs to its end comes to its result: no size check stands in
its way (44_unmerge.md R105). -/
theorem runResult (h : HoldsStego s c)
    (hrun : runSteps (1 + s.aW * s.aH) { c with pending := [.bus (.wr 0 3)] } = .next r) :
    RunResult .unmerge { c with pending := [.bus (.wr 0 3)] } r := by
  rw [← h.aW, ← h.aH] at hrun
  rcases runSteps_launch_cases (op := .unmerge) (s := { c with pending := [.bus (.wr 0 3)] })
    h.params h.quiet rfl hrun with ⟨⟨ho, -⟩, -⟩ | ⟨-, hresult⟩
  · cases ho
  · exact hresult

/-- The lit pixels of the stego image are the payload pixels that survive, so they decide the size
of the result (44_unmerge.md R115). -/
theorem isCropBound (h : HoldsStego s c)
    (hresult : RunResult .unmerge { c with pending := [.bus (.wr 0 3)] } r) :
    IsCropBound (survivesAt s) s.aW s.aH r.oW r.oH := by
  have hlit := hresult.unmergeSize rfl
  rw [h.aW, h.aH] at hlit
  exact IsCropBound_congr _ _ _ _ _ _
    (fun x y hx hy => litAt_iff_survivesAt (h.pixels x y hx hy)) hlit

/-- What UNMERGE recovers from the stego image is the payload without its low nibbles
(41_pixel_ops.md R84). -/
theorem recovered (h : HoldsStego s c)
    (hresult : RunResult .unmerge { c with pending := [.bus (.wr 0 3)] } r) {x y : Nat}
    (hx : x < r.oW) (hy : y < r.oH) : r.pixelAt .go x y = keptPixel (payloadAt s x y) := by
  obtain ⟨hoW, hoH⟩ := hresult.inGrid
  have hxA : x < c.aW := hx.trans_le hoW
  have hyA : y < c.aH := hy.trans_le hoH
  calc r.pixelAt .go x y
      = recoveredPixel (c.pixelAt .ga x y) := hresult.pixels x y hxA hyA
    _ = recoveredPixel (stegoPixel (s.pixelAt .ga x y) (payloadAt s x y)) :=
        congrArg recoveredPixel (h.pixels x y (h.aW ▸ hxA) (h.aH ▸ hyA))
    _ = keptPixel (payloadAt s x y) := recoveredPixel_stegoPixel _ _

end HoldsStego

/-- Settles O57: after MERGE and COPYOUT GA holds the stego image (`HoldsStego`), and UNMERGE
recovers from each pixel the payload pixel it hides, which is lit exactly when it survives. -/
theorem roundTrip : Obligations.RoundTrip := by
  unfold Obligations.RoundTrip
  intro s m c r h hp hs hg hW hH hmerge hcopy hunmerge
  have hc := holdsStego_of_merge_copyOut h hp hs hg hW hH hmerge hcopy
  have hresult := hc.runResult hunmerge
  have hbound := hc.isCropBound hresult
  obtain ⟨hrW, hrH⟩ := IsCropBound_le_max (fun _ _ hn => hn.1) hbound
  exact ⟨hresult.status, hresult.mode.trans hc.aMode, hbound, hrW, hrH,
    fun x y => hc.recovered hresult⟩

end Sys2Proof.Machine

/-! ### Operations one after the other -/

namespace Sys2Proof.Machine

open Sys2Proof.Safety

/-- Settles O6: PACK is undone by the two nibble laws, and a byte is the PACK of its nibbles
(`packNibbles_high_low`). -/
theorem packIsABijection : Obligations.PackIsABijection := by
  unfold Obligations.PackIsABijection
  refine ⟨fun a b s t v hpack hv => ?nibbles, fun v s => ?byte⟩
  case nibbles =>
    rw [exec_pack] at hpack
    cases hpack
    cases hv
    exact ⟨by rw [exec_hi4, highNibble_packNibbles], by rw [exec_lo4, lowNibble_packNibbles]⟩
  case byte =>
    exact ⟨highNibble v, lowNibble v, exec_hi4 v s, exec_lo4 v s,
      by rw [exec_pack, packNibbles_high_low]⟩

/-- Settles O9: the byte MERGE_CH gives is the stego lane, from which UNMERGE_CH recovers the kept
lane (`recoveredLane_stegoLane`). -/
theorem channelRoundTrip : Obligations.ChannelRoundTrip := by
  unfold Obligations.ChannelRoundTrip
  intro c p v s t hmerge hv
  rw [exec_mergeCh, mergeChannel_eq] at hmerge
  cases hmerge
  cases hv
  rw [exec_unmergeCh, unmergeChannel_eq, recoveredLane_stegoLane]
  rfl

/-- Settles O10: a stego lane shares its high nibble with the carrier's channel (`stegoLane_toNat`),
and low nibbles differ by at most 15. -/
theorem mergedChannelStaysClose : Obligations.MergedChannelStaysClose := by
  unfold Obligations.MergedChannelStaysClose
  intro c p v s t hmerge hv
  rw [exec_mergeCh, mergeChannel_eq] at hmerge
  cases hmerge
  cases hv
  have := p.isLt
  rw [stegoLane_toNat]
  omega

/-- Settles O12: inside the payload PSEL reads GB at the scan position, a cell that does not
exist. -/
theorem payloadSelectionFaults : Obligations.PayloadSelectionFaults := by
  unfold Obligations.PayloadSelectionFaults
  intro s hx hy hout
  have hcell : ¬ s.params.inRange s.x s.y = true := by rw [inRange_iff]; omega
  rw [exec_psel, readPayloadPixel, if_pos ((inPayload_iff s _ _).mpr ⟨hx, hy⟩), memRead,
    if_neg hcell]

/-- A kept lane is black exactly when the payload lane has no high nibble
(40_channel_datapath.md R78). -/
theorem keptLane_ne_zero (p : Byte) : keptLane p ≠ 0 ↔ 16 ≤ p.toNat := by
  have hzero : keptLane p = 0 ↔ (keptLane p).toNat = 0 := BitVec.toNat_eq
  rw [ne_eq, hzero, keptLane, byte_and_high]
  omega

theorem isNonblack_keptPixel (p : Pixel) : isNonblack (keptPixel p) = true ↔
    16 ≤ p.r.toNat ∨ 16 ≤ p.g.toNat ∨ 16 ≤ p.b.toNat := by
  simp only [isNonblack_iff, keptPixel, keptLane_ne_zero]

/-- Settles O15: the pixel recovered is the kept pixel (`recoveredPixel_stegoPixel`), whose black
test is `isNonblack_keptPixel`. -/
theorem pixelRoundTrip : Obligations.PixelRoundTrip := by
  unfold Obligations.PixelRoundTrip
  intro c p m r s t u hmerge hm hunmerge hr
  rw [exec_mergePx, mergePixels_eq] at hmerge
  cases hmerge
  cases hm
  rw [exec_unmergePx, unmergePixel_eq, recoveredPixel_stegoPixel] at hunmerge
  cases hunmerge
  cases hr
  refine ⟨rfl, fun hlit => ?lit, fun hdark => ?dark⟩
  case lit => rw [exec_nonblack, (isNonblack_keptPixel p).mpr hlit]
  case dark =>
    have hblack : isNonblack (keptPixel p) = false := by
      rw [Bool.eq_false_iff, ne_eq, isNonblack_keptPixel]; omega
    rw [exec_nonblack, hblack]

@[simp] theorem exec_sizechk (s : State) :
    exec .sizechk s = .next { checkSize s with result := .bit (sizeOk s) } := rfl

/-- Settles O16: the operation gives the bit `sizeOk` and takes SizeError when it is false. -/
theorem sizeCheck : Obligations.SizeCheck := by
  unfold Obligations.SizeCheck
  refine fun s => ⟨fun hW hH => ?fits, fun hlarge => ?tooLarge⟩
  case fits =>
    have hsize := (sizeOk_iff s).mpr ⟨hW, hH⟩
    rw [exec_sizechk, checkSize, if_pos hsize, hsize]
  case tooLarge =>
    have hsize := (sizeOk_eq_false_iff s).mpr hlarge
    rw [exec_sizechk, checkSize, hsize]
    rfl

/-! ### The step and its event -/

/-- Settles O27: a write of a CTRL word is the operation it decodes to (`transact_command`), and a
table word that decodes is such a word (`decodeTableWord_eq_some_iff`). -/
theorem stepRunsTheCommand : Obligations.StepRunsTheCommand := by
  unfold Obligations.StepRunsTheCommand
  refine ⟨fun s w rest hp => ?word, fun s nbits v i hi => ?tableWord⟩
  case word => exact (step_of_pending_cons hp).trans (transact_command w _)
  case tableWord =>
    have hbits : 0 < nbits := Nat.pos_of_ne_zero fun h => by subst h; cases hi
    rw [decodeTableWord_eq_some_iff hbits, decodeValue_ok_iff_encode] at hi
    obtain ⟨w, hw, hv⟩ := hi
    have hstep : step (s.withFetchWord nbits v) = transact (.wr 0 (tableValue nbits v)) s :=
      step_of_pending_cons (s := s.withFetchWord nbits v) rfl
    rw [hstep, hv, transact_command, (encode_eq_some_iff i w).mp hw]

/-- Settles O28: the four heads the queue can have. -/
theorem stepTakesTheNextEvent : Obligations.StepTakesTheNextEvent :=
  ⟨step_of_pending_nil, fun _ _ => step_of_pending_cons, fun _ _ => step_of_pending_cons,
    fun _ _ _ => step_of_pending_cons⟩

/-- Settles O29: the step is the core's turn, which does nothing outside BUSY. -/
theorem coreIsQuiescent : Obligations.CoreIsQuiescent := fun s hs hq =>
  (step_of_pending_nil s hq).trans (coreStep_quiet s hs)

end Sys2Proof.Machine

/-! ### The register port -/

namespace Sys2Proof.Machine

open Sys2Proof.Safety

theorem exists_register_of_index {idx : Nat} (h : idx ≤ 10) : ∃ r, Reg.ofIndex idx = some r :=
  Option.isSome_iff_exists.mp ((ofIndex_isSome idx).mpr h)

theorem ofIndex_eq_none {idx : Nat} (h : 11 ≤ idx) : Reg.ofIndex idx = none := by
  rw [← Option.not_isSome_iff_eq_none, ofIndex_isSome]
  omega

/-- An input register that fits its value holds it once it is stored (10_state.md R25 b). -/
theorem readRegister_storeRegister {r : Reg} (hr : isInputRegister r = true) {v : Nat} {s : State}
    (hv : v < 2 ^ r.width s.params) : (storeRegister r v s).readRegister r = v := by
  cases r with
  | aMode => exact (BitVec.toNat_ofNat v 8).trans (Nat.mod_eq_of_lt hv)
  | aW | aH | bW | bH => rfl
  | ctrl | status | err | oW | oH | oMode => cases hr

/-- The read-only registers are those of indices 1, 2, 8, 9 and 10 (10_state.md R24). -/
theorem readOnly_of_index {r : Reg} (h : r.index ∈ [1, 2, 8, 9, 10]) :
    r ≠ .ctrl ∧ isInputRegister r = false := by
  revert h
  cases r <;> decide

/-- A write of a read-only register changes nothing, in every status (10_state.md R25 a). -/
theorem transact_wr_readOnly {s : State} {idx v : Nat} {r : Reg} (hi : Reg.ofIndex idx = some r)
    (hr : r ≠ .ctrl) (hin : isInputRegister r = false) (hv : v < 2 ^ r.width s.params) :
    transact (.wr idx v) s = .next s := by
  rw [transact_wr s idx v r hi hv, writeRegister_of_notFrozen hr fun h => by simp [hin] at h]
  cases r with
  | ctrl | status | err | oW | oH | oMode => rfl
  | aW | aH | aMode | bW | bH => cases hin

/-- A write of an input register that is taken stores its value, which fits (10_state.md R25). -/
theorem transact_wr_input_inv {s t : State} {idx v : Nat} {r : Reg} (hi : Reg.ofIndex idx = some r)
    (hr : isInputRegister r = true) (h : transact (.wr idx v) s = .next t) :
    v < 2 ^ r.width s.params ∧ t = storeRegister r v s := by
  have hctrl : r ≠ .ctrl := by rintro rfl; cases hr
  rcases transact_cases _ s t h with ⟨_, -, he, -⟩ | ⟨_, _, r', he, hi', hv, -, rfl⟩
    | ⟨_, _, he, -⟩ | ⟨_, _, _, _, _, he, -⟩ | ⟨_, _, _, _, he, -⟩
  · cases he
    exact absurd (Option.some.inj hi).symm hctrl
  · cases he
    obtain rfl := Option.some.inj (hi.symm.trans hi')
    exact ⟨hv, rfl⟩
  all_goals cases he

/-- Settles O37: read-only writes by `transact_wr_readOnly`, reads after writes by
`readRegister_storeRegister`, the refusals by the form of the write, BUSY by the rules of R134 and
R135. -/
theorem registerAccess : Obligations.RegisterAccess := by
  unfold Obligations.RegisterAccess
  refine ⟨fun s idx v hidx hfit => ?readOnly, fun s t idx v hlo hhi hwrite => ?readBack,
    fun s idx v hidx hwide => ?tooWide, fun s idx v hidx => ?noRegister,
    fun s idx v hb hlo hhi hfit => ?frozen, fun s idx hb hlo hhi => ?drawn⟩
  case readOnly =>
    obtain ⟨r, hi, hv⟩ := (registerWriteFits_iff _ _ _).mp hfit
    obtain rfl := (ofIndex_eq_some_iff idx r).mp hi
    obtain ⟨hctrl, hin⟩ := readOnly_of_index hidx
    exact transact_wr_readOnly hi hctrl hin hv
  case readBack =>
    obtain ⟨r, hi, hr⟩ := exists_inputRegister_of_index hlo hhi
    obtain ⟨hv, rfl⟩ := transact_wr_input_inv hi hr hwrite
    rw [transact_rd_plain hi (isOutputRegister_of_input hr), readRegister_storeRegister hr hv]
  case tooWide =>
    obtain ⟨r, hi⟩ := exists_register_of_index hidx
    have hv : ¬ v < 2 ^ r.width s.params := fun hv => by
      simp [(registerWriteFits_iff s.params idx v).mpr ⟨r, hi, hv⟩] at hwide
    simp only [transact, hi, if_neg hv]
  case noRegister =>
    simp only [transact, ofIndex_eq_none hidx, and_self]
  case frozen =>
    obtain ⟨r, hi, hr⟩ := exists_inputRegister_of_index hlo hhi
    obtain ⟨r', hi', hv⟩ := (registerWriteFits_iff _ _ _).mp hfit
    obtain rfl := Option.some.inj (hi.symm.trans hi')
    exact transact_wr_busy hb hi hr hv
  case drawn =>
    obtain ⟨r, hi, hr⟩ : ∃ r, Reg.ofIndex idx = some r ∧ isOutputRegister r = true := by
      interval_cases idx <;> exact ⟨_, rfl, rfl⟩
    obtain ⟨v, -, hread⟩ := transact_rd_drawn hb hi hr
    exact ⟨v, hread⟩

/-- Settles O38: outside BUSY a write that fits is the store (`transact_wr_quiet`). -/
theorem inputRegisterWrites : Obligations.InputRegisterWrites := by
  unfold Obligations.InputRegisterWrites
  refine fun s v hs => ⟨fun hv => ⟨?aW, ?aH, ?bW, ?bH⟩, fun hv => ?aMode⟩
  case aW => exact transact_wr_quiet (r := .aW) rfl nofun hs hv
  case aH => exact transact_wr_quiet (r := .aH) rfl nofun hs hv
  case bW => exact transact_wr_quiet (r := .bW) rfl nofun hs hv
  case bH => exact transact_wr_quiet (r := .bH) rfl nofun hs hv
  case aMode => exact transact_wr_quiet (r := .aMode) rfl nofun hs hv

/-- Outside BUSY every register reads as it is held (20_memory.md R56, log 9). -/
theorem transact_rd_quiet {s : State} {idx : Nat} {r : Reg} (hi : Reg.ofIndex idx = some r)
    (hs : s.status ≠ .busy) :
    transact (.rd idx) s = .next { s with reply := .register (s.readRegister r) } := by
  rw [transact_rd s idx r hi, readRegister_plain r s (.inr hs)]
  rfl

/-- Settles O39: STATUS, ERR and the input registers are read plainly in every status
(`transact_rd_plain`), the output registers outside BUSY (`transact_rd_quiet`). -/
theorem registerReads : Obligations.RegisterReads := by
  unfold Obligations.RegisterReads
  intro s
  rw [← statusCode_eq_statusValue, ← errCode_eq_errValue]
  refine ⟨⟨?ctrl, ?status, ?err⟩, ⟨?aW, ?aH, ?aMode, ?bW, ?bH⟩, fun hs => ⟨?oW, ?oH, ?oMode⟩⟩
  case ctrl => exact transact_rd_plain (r := .ctrl) rfl rfl
  case status => exact transact_rd_plain (r := .status) rfl rfl
  case err => exact transact_rd_plain (r := .err) rfl rfl
  case aW => exact transact_rd_plain (r := .aW) rfl rfl
  case aH => exact transact_rd_plain (r := .aH) rfl rfl
  case aMode => exact transact_rd_plain (r := .aMode) rfl rfl
  case bW => exact transact_rd_plain (r := .bW) rfl rfl
  case bH => exact transact_rd_plain (r := .bH) rfl rfl
  case oW => exact transact_rd_quiet (r := .oW) rfl hs
  case oH => exact transact_rd_quiet (r := .oH) rfl hs
  case oMode => exact transact_rd_quiet (r := .oMode) rfl hs

/-! ### The grid port -/

/-- A cell of GO is no draw in IDLE and ERROR, and in DONE inside the window (44_unmerge.md R109,
log 9). -/
theorem outputCellIsDrawn_eq_false {s : State} {x y : Nat}
    (h : s.status = .idle ∨ s.status = .error ∨ (s.status = .done ∧ x < s.oW ∧ y < s.oH)) :
    outputCellIsDrawn s x y = false := by
  rcases h with hs | hs | ⟨hs, hx, hy⟩
  · simp [outputCellIsDrawn, hs]
  · simp [outputCellIsDrawn, hs]
  · exact outputCellIsDrawn_inWindow hs hx hy

/-- Settles O40: a write outside BUSY is the pixel write, and a read is plain where the cell is no
draw. -/
theorem gridPort : Obligations.GridPort := by
  unfold Obligations.GridPort
  intro s id x y w hx hy
  have hcell : s.params.inRange x y = true := (inRange_iff _ _ _).mpr ⟨hx, hy⟩
  refine ⟨fun hs => ?write, fun hread => ?read⟩
  case write =>
    rw [transact_gwr s id x y w hcell, writeCell, if_neg hs]
    rfl
  case read =>
    rw [transact_grd s id x y hcell,
      readCell_plain id x y s (hread.imp_right outputCellIsDrawn_eq_false)]
    rfl

/-- Settles O43: in DONE a cell of GO outside the window is a draw, as `transact_grd_drawn`
reads it. -/
theorem cellsOutsideTheCropAreDraws : Obligations.CellsOutsideTheCropAreDraws := by
  unfold Obligations.CellsOutsideTheCropAreDraws
  intro s x y hd hout hx hy
  have hdrawn : outputCellIsDrawn s x y = true := by simpa [outputCellIsDrawn, hd] using hout
  exact transact_grd_drawn hdrawn ((inRange_iff _ _ _).mpr ⟨hx, hy⟩)

/-- A coordinate that is no address is refused at the port (20_memory.md R41). -/
theorem withCell_outOfRange (id : GridId) {x y : Nat} {s : State} (k : GridId → Outcome)
    (h : ¬ s.params.inRange x y = true) :
    withCell (GridId.select id) x y s k = .refused (.coordinateOutOfRange x y) := by
  simp only [withCell, ofSelect_select, if_neg h]

/-- Settles O44: both refusals are made by the port before any cell is touched. -/
theorem gridPortRefusals : Obligations.GridPortRefusals := by
  unfold Obligations.GridPortRefusals
  refine fun s x y w => ⟨⟨rfl, rfl⟩, fun id hout => ?outOfRange⟩
  have hcell : ¬ s.params.inRange x y = true := by rw [inRange_iff]; omega
  exact ⟨withCell_outOfRange id _ hcell, withCell_outOfRange id _ hcell⟩

/-! ### Reset as an event -/

/-- Settles O46: the state after the reset is `resetState_quiet`, whose memories carry the number
after the draws used; no memory of a good state has that number. -/
theorem resetOutsideARun : Obligations.ResetOutsideARun := by
  unfold Obligations.ResetOutsideARun
  intro s rest h hs hp
  obtain ⟨-, -, ⟨-, -, hga, hgb, hgo⟩, -⟩ := h
  have hstep := step_of_pending_cons hp
  rw [happen, resetState_quiet (by exact hs)] at hstep
  exact ⟨s.draws + 1, _, hstep, by omega, by omega, by omega, rfl,
    fun id x y => by cases id <;> rfl⟩

/-- Settles O47: the state after the reset is `resetState_busy`, which keeps GA and GB; GO carries
the number after the draws used. -/
theorem resetAbandonsARun : Obligations.ResetAbandonsARun := by
  unfold Obligations.ResetAbandonsARun
  intro s rest h hb hp
  obtain ⟨-, -, ⟨-, -, -, -, hgo⟩, -⟩ := h
  have hstep := step_of_pending_cons hp
  rw [happen, resetState_busy (by exact hb)] at hstep
  exact ⟨s.draws + 1, _, hstep, by omega, rfl, fun x y => ⟨rfl, rfl⟩, fun x y => rfl⟩

end Sys2Proof.Machine
